-- ==== Sys2Proof/Word.lean ====
section
/-! DEFINITION. The block's word and field types: the 32-bit input word (R101), the 5-bit register
number (R110) and the 12-bit CSR address (R120). -/

namespace Sys2Proof

/-- The 32-bit instruction word, the block's sole input (R101, R300). -/
abbrev Word := BitVec 32

/-- One byte, as a host may hold a quarter of a word (R201). -/
abbrev Byte := BitVec 8

/-- A register number: a 5-bit field of the word, only ever printed (R110). -/
abbrev RegNum := BitVec 5

/-- A CSR address, 0..4095 (R120, R311). -/
abbrev CsrAddr := BitVec 12

end Sys2Proof
end

