-- ==== Sys2Proof/Syntax.lean ====
section
/-! DEFINITION. The 59 instructions of spec/opcode_table.json (R3), one constructor per row. An
instruction carries EVERY bit of its word that the row does not fix, the uncompared and unprinted
ones too (log entry 8), so that a word and its instruction determine each other. -/

namespace Sys2Proof

/-- The instructions the block recognises (R3), in the order of the opcode table. -/
inductive Instr where
  -- U format: `rd, imm_u` (R400, R401; `imm` is the whole 32-bit `imm_u` of R306).
  | lui (rd : RegNum) (imm : Word)
  | auipc (rd : RegNum) (imm : Word)
  -- J format: `rd, imm_j` (R402; `imm` is the 21 significant bits of R307, its bit 0 included).
  | jal (rd : RegNum) (imm : BitVec 21)
  -- I format, jump: `rd, imm_i(rs1)` (R404).
  | jalr (rd rs1 : RegNum) (imm : BitVec 12)
  -- B format: `rs1, rs2, imm_b` (R421 to R426; `imm` is the 13 significant bits of R305, its bit 0 included).
  | beq (rs1 rs2 : RegNum) (imm : BitVec 13)
  | bne (rs1 rs2 : RegNum) (imm : BitVec 13)
  | blt (rs1 rs2 : RegNum) (imm : BitVec 13)
  | bge (rs1 rs2 : RegNum) (imm : BitVec 13)
  | bltu (rs1 rs2 : RegNum) (imm : BitVec 13)
  | bgeu (rs1 rs2 : RegNum) (imm : BitVec 13)
  -- I format, loads: `rd, imm_i(rs1)` (R441 to R445).
  | lb (rd rs1 : RegNum) (imm : BitVec 12)
  | lh (rd rs1 : RegNum) (imm : BitVec 12)
  | lw (rd rs1 : RegNum) (imm : BitVec 12)
  | lbu (rd rs1 : RegNum) (imm : BitVec 12)
  | lhu (rd rs1 : RegNum) (imm : BitVec 12)
  -- S format: `rs2, imm_s(rs1)` (R451 to R453).
  | sb (rs2 rs1 : RegNum) (imm : BitVec 12)
  | sh (rs2 rs1 : RegNum) (imm : BitVec 12)
  | sw (rs2 rs1 : RegNum) (imm : BitVec 12)
  -- I format, OP-IMM: `rd, rs1, imm_i` (R461 to R466).
  | addi (rd rs1 : RegNum) (imm : BitVec 12)
  | slti (rd rs1 : RegNum) (imm : BitVec 12)
  | sltiu (rd rs1 : RegNum) (imm : BitVec 12)
  | xori (rd rs1 : RegNum) (imm : BitVec 12)
  | ori (rd rs1 : RegNum) (imm : BitVec 12)
  | andi (rd rs1 : RegNum) (imm : BitVec 12)
  -- I format, shifts: `rd, rs1, shamt` (R467 to R469). `slli` also carries its uncompared `funct7` bits (R323, R467).
  | slli (funct7 : BitVec 7) (rd rs1 : RegNum) (shamt : BitVec 5)
  | srli (rd rs1 : RegNum) (shamt : BitVec 5)
  | srai (rd rs1 : RegNum) (shamt : BitVec 5)
  -- R format: `rd, rs1, rs2` (R481 to R498).
  | add (rd rs1 rs2 : RegNum)
  | sub (rd rs1 rs2 : RegNum)
  | sll (rd rs1 rs2 : RegNum)
  | slt (rd rs1 rs2 : RegNum)
  | sltu (rd rs1 rs2 : RegNum)
  | xor (rd rs1 rs2 : RegNum)
  | srl (rd rs1 rs2 : RegNum)
  | sra (rd rs1 rs2 : RegNum)
  | or (rd rs1 rs2 : RegNum)
  | and (rd rs1 rs2 : RegNum)
  | mul (rd rs1 rs2 : RegNum)
  | mulh (rd rs1 rs2 : RegNum)
  | mulhsu (rd rs1 rs2 : RegNum)
  | mulhu (rd rs1 rs2 : RegNum)
  | div (rd rs1 rs2 : RegNum)
  | divu (rd rs1 rs2 : RegNum)
  | rem (rd rs1 rs2 : RegNum)
  | remu (rd rs1 rs2 : RegNum)
  -- No printed operand (R511, R512, R521 to R526). The fences carry their uncompared bits `w[31:15]` and `w[11:7]` (R323, R510).
  | fence (hi : BitVec 17) (lo : BitVec 5)
  | fenceI (hi : BitVec 17) (lo : BitVec 5)
  | ecall
  | ebreak
  | uret
  | sret
  | mret
  | wfi
  -- CSR, register form: `rd, csr, rs1` (R531 to R533).
  | csrrw (rd : RegNum) (csr : CsrAddr) (rs1 : RegNum)
  | csrrs (rd : RegNum) (csr : CsrAddr) (rs1 : RegNum)
  | csrrc (rd : RegNum) (csr : CsrAddr) (rs1 : RegNum)
  -- CSR, immediate form: `rd, csr, uimm` (R534 to R536; `uimm` is the `rs1` field, R312).
  | csrrwi (rd : RegNum) (csr : CsrAddr) (uimm : BitVec 5)
  | csrrsi (rd : RegNum) (csr : CsrAddr) (uimm : BitVec 5)
  | csrrci (rd : RegNum) (csr : CsrAddr) (uimm : BitVec 5)
  deriving DecidableEq, Repr

end Sys2Proof
end

