-- ==== Sys2Proof/WellFormed.lean ====
section
/-! DEFINITION. Which instructions are well formed: the immediates whose low bits the encoding has no
place for have those bits zero (R305, R306, R307). Every other operand is well formed by its type. -/

namespace Sys2Proof

/-- `imm_u = {w[31:12], 0x000}`: the low twelve bits are zero (R306). -/
def immUOk (imm : Word) : Bool := imm.extractLsb' 0 12 == 0#12

/-- `imm_b` is even: `imm[0] = 0` (R305). -/
def immBOk (imm : BitVec 13) : Bool := imm.extractLsb' 0 1 == 0#1

/-- `imm_j` is even: `imm[0] = 0` (R307). -/
def immJOk (imm : BitVec 21) : Bool := imm.extractLsb' 0 1 == 0#1

/-- The check on an instruction; the decoder gives no instruction that fails it. -/
def Instr.wellFormed : Instr → Bool
  | .lui _ imm | .auipc _ imm => immUOk imm
  | .jal _ imm => immJOk imm
  | .beq _ _ imm | .bne _ _ imm | .blt _ _ imm | .bge _ _ imm | .bltu _ _ imm | .bgeu _ _ imm => immBOk imm
  | .jalr .. | .lb .. | .lh .. | .lw .. | .lbu .. | .lhu .. | .sb .. | .sh .. | .sw ..
  | .addi .. | .slti .. | .sltiu .. | .xori .. | .ori .. | .andi .. | .slli .. | .srli .. | .srai ..
  | .add .. | .sub .. | .sll .. | .slt .. | .sltu .. | .xor .. | .srl .. | .sra .. | .or .. | .and ..
  | .mul .. | .mulh .. | .mulhsu .. | .mulhu .. | .div .. | .divu .. | .rem .. | .remu ..
  | .fence .. | .fenceI .. | .ecall | .ebreak | .uret | .sret | .mret | .wfi
  | .csrrw .. | .csrrs .. | .csrrc .. | .csrrwi .. | .csrrsi .. | .csrrci .. => true

end Sys2Proof
end

