-- ==== Sys2Proof/Decode.lean ====
section
/-! DEFINITION. The field extractor (R301 to R312), the decoder from words to instructions (R320 to
R335, and each family's dispatch rule), the encoder back, and the opcode table's rows as data. -/

namespace Sys2Proof

/-! ## The field extractor -/

namespace Extractor

/-- `opcode = w[6:0]` (R301). -/
def opcode (w : Word) : BitVec 7 := w.extractLsb' 0 7
/-- `rd = w[11:7]` (R301). -/
def rd (w : Word) : BitVec 5 := w.extractLsb' 7 5
/-- `funct3 = w[14:12]` (R301). -/
def funct3 (w : Word) : BitVec 3 := w.extractLsb' 12 3
/-- `rs1 = w[19:15]` (R301). -/
def rs1 (w : Word) : BitVec 5 := w.extractLsb' 15 5
/-- `rs2 = w[24:20]` (R301); also the shift amount of `slli`, `srli` and `srai` (R310). -/
def rs2 (w : Word) : BitVec 5 := w.extractLsb' 20 5
/-- `funct7 = w[31:25]` (R301). -/
def funct7 (w : Word) : BitVec 7 := w.extractLsb' 25 7
/-- `f12 = w[31:20]` (R301), the source's `funct7_rs2_combined`; also the CSR address, unsigned (R311). -/
def f12 (w : Word) : BitVec 12 := w.extractLsb' 20 12

/-! The raw sub-groups of R302. The groups `w[31:25]` and `w[31:20]` are `funct7` and `f12`. -/

/-- `w[31]`, the sign source (R302, R309). -/
def g31 (w : Word) : BitVec 1 := w.extractLsb' 31 1
/-- `w[30:25]` (R302). -/
def g30_25 (w : Word) : BitVec 6 := w.extractLsb' 25 6
/-- `w[24:21]` (R302). -/
def g24_21 (w : Word) : BitVec 4 := w.extractLsb' 21 4
/-- `w[20]` (R302). -/
def g20 (w : Word) : BitVec 1 := w.extractLsb' 20 1
/-- `w[19:12]` (R302). -/
def g19_12 (w : Word) : BitVec 8 := w.extractLsb' 12 8
/-- `w[11:8]` (R302). -/
def g11_8 (w : Word) : BitVec 4 := w.extractLsb' 8 4
/-- `w[7]` (R302). -/
def g7 (w : Word) : BitVec 1 := w.extractLsb' 7 1

/-! The significant bits of each immediate, by the format table of R302. -/

/-- The 12 significant bits of the I immediate (R303). -/
def rawI (w : Word) : BitVec 12 := g31 w ++ g30_25 w ++ g24_21 w ++ g20 w
/-- The 12 significant bits of the S immediate (R304). -/
def rawS (w : Word) : BitVec 12 := g31 w ++ g30_25 w ++ g11_8 w ++ g7 w
/-- The 13 significant bits of the B immediate (R305). -/
def rawB (w : Word) : BitVec 13 := g31 w ++ g7 w ++ g30_25 w ++ g11_8 w ++ 0#1
/-- The 21 significant bits of the J immediate (R307). -/
def rawJ (w : Word) : BitVec 21 := g31 w ++ g19_12 w ++ g20 w ++ g30_25 w ++ g24_21 w ++ 0#1

end Extractor

/-- `sext_N`: to 32 bits by copying the top bit (R11, R308). -/
def sext {n : Nat} (v : BitVec n) : Word := v.signExtend 32

/-- `zext_N`: to 32 bits with zeros (R11). -/
def zext {n : Nat} (v : BitVec n) : Word := v.setWidth 32

/-- `signed(v)`: a 32-bit value read as a two's-complement integer (R11). -/
def signed (v : Word) : Int := v.toInt

namespace Extractor

/-- `imm_i = sext_12(w[31:20])` (R303). -/
def immI (w : Word) : Word := sext (rawI w)
/-- `imm_s = sext_12({w[31:25], w[11:7]})` (R304). -/
def immS (w : Word) : Word := sext (rawS w)
/-- `imm_b = sext_13({w[31], w[7], w[30:25], w[11:8], 0})` (R305). -/
def immB (w : Word) : Word := sext (rawB w)
/-- `imm_u = {w[31:12], 0x000}` (R306). -/
def immU (w : Word) : Word := w.extractLsb' 12 20 ++ 0#12
/-- `imm_j = sext_21({w[31], w[19:12], w[20], w[30:21], 0})` (R307). -/
def immJ (w : Word) : Word := sext (rawJ w)
/-- The shift amount `shamt = rs2 = w[24:20]` (R310). -/
def shamt (w : Word) : BitVec 5 := rs2 w
/-- The CSR address `csr = f12`, unsigned (R311). -/
def csr (w : Word) : CsrAddr := f12 w

end Extractor

/-! ## The decoder -/

/-- Why a word is no recognised instruction, by the level of the dispatch that has no case for it
(R330, R331). The block itself shows no level (R604); the model's result is `NoMatch(w)` for all. -/
inductive Reject where
  /-- The opcode is none of the eleven (R330). -/
  | opcode
  /-- JALR with `funct3 ≠ 000` (R403). -/
  | jalrFunct3
  /-- BRANCH with `funct3` 010 or 011 (R420). -/
  | branchFunct3
  /-- LOAD with `funct3` 011, 110 or 111 (R440). -/
  | loadFunct3
  /-- STORE with `funct3` 011 or above (R450). -/
  | storeFunct3
  /-- OP-IMM, `funct3 = 101`, with `funct7` neither 0000000 nor 0100000 (R460). -/
  | opImmFunct7
  /-- OP with `funct7` none of 0000000, 0000001, 0100000 (R480). -/
  | opFunct7
  /-- OP, `funct7 = 0100000`, with `funct3` neither 000 nor 101 (R480). -/
  | opFunct3
  /-- MISC-MEM with `funct3` neither 000 nor 001 (R510). -/
  | miscMemFunct3
  /-- SYSTEM with `funct3 = 100` (R520). -/
  | systemFunct3
  /-- SYSTEM, `funct3 = 000`, with `rd ≠ 0` or `rs1 ≠ 0` (R520). -/
  | systemRdRs1
  /-- SYSTEM, `funct3 = 000`, with `f12` none of the six codes (R520). -/
  | systemF12
  /-- Fewer than four bytes (`decodeBytes` only: a host's byte stream, R201). -/
  | truncated
  deriving DecidableEq, Repr

open Extractor

/-- JALR family (R403). -/
def decodeJalr (w : Word) : Except Reject Instr :=
  if funct3 w = 0b000 then .ok (.jalr (rd w) (rs1 w) (rawI w))
  else .error .jalrFunct3

/-- BRANCH family (R420). -/
def decodeBranch (w : Word) : Except Reject Instr :=
  if funct3 w = 0b000 then .ok (.beq (rs1 w) (rs2 w) (rawB w))
  else if funct3 w = 0b001 then .ok (.bne (rs1 w) (rs2 w) (rawB w))
  else if funct3 w = 0b100 then .ok (.blt (rs1 w) (rs2 w) (rawB w))
  else if funct3 w = 0b101 then .ok (.bge (rs1 w) (rs2 w) (rawB w))
  else if funct3 w = 0b110 then .ok (.bltu (rs1 w) (rs2 w) (rawB w))
  else if funct3 w = 0b111 then .ok (.bgeu (rs1 w) (rs2 w) (rawB w))
  else .error .branchFunct3

/-- LOAD family (R440). -/
def decodeLoad (w : Word) : Except Reject Instr :=
  if funct3 w = 0b000 then .ok (.lb (rd w) (rs1 w) (rawI w))
  else if funct3 w = 0b001 then .ok (.lh (rd w) (rs1 w) (rawI w))
  else if funct3 w = 0b010 then .ok (.lw (rd w) (rs1 w) (rawI w))
  else if funct3 w = 0b100 then .ok (.lbu (rd w) (rs1 w) (rawI w))
  else if funct3 w = 0b101 then .ok (.lhu (rd w) (rs1 w) (rawI w))
  else .error .loadFunct3

/-- STORE family (R450). -/
def decodeStore (w : Word) : Except Reject Instr :=
  if funct3 w = 0b000 then .ok (.sb (rs2 w) (rs1 w) (rawS w))
  else if funct3 w = 0b001 then .ok (.sh (rs2 w) (rs1 w) (rawS w))
  else if funct3 w = 0b010 then .ok (.sw (rs2 w) (rs1 w) (rawS w))
  else .error .storeFunct3

/-- OP-IMM family (R460). After the seven other values `funct3` is 101, and only there `funct7` is compared. -/
def decodeOpImm (w : Word) : Except Reject Instr :=
  if funct3 w = 0b000 then .ok (.addi (rd w) (rs1 w) (rawI w))
  else if funct3 w = 0b010 then .ok (.slti (rd w) (rs1 w) (rawI w))
  else if funct3 w = 0b011 then .ok (.sltiu (rd w) (rs1 w) (rawI w))
  else if funct3 w = 0b100 then .ok (.xori (rd w) (rs1 w) (rawI w))
  else if funct3 w = 0b110 then .ok (.ori (rd w) (rs1 w) (rawI w))
  else if funct3 w = 0b111 then .ok (.andi (rd w) (rs1 w) (rawI w))
  else if funct3 w = 0b001 then .ok (.slli (funct7 w) (rd w) (rs1 w) (shamt w))
  else if funct7 w = 0b0000000 then .ok (.srli (rd w) (rs1 w) (shamt w))
  else if funct7 w = 0b0100000 then .ok (.srai (rd w) (rs1 w) (shamt w))
  else .error .opImmFunct7

/-- OP family (R480), on `funct7` then `funct3`. -/
def decodeOp (w : Word) : Except Reject Instr :=
  if funct7 w = 0b0000000 then
    if funct3 w = 0b000 then .ok (.add (rd w) (rs1 w) (rs2 w))
    else if funct3 w = 0b001 then .ok (.sll (rd w) (rs1 w) (rs2 w))
    else if funct3 w = 0b010 then .ok (.slt (rd w) (rs1 w) (rs2 w))
    else if funct3 w = 0b011 then .ok (.sltu (rd w) (rs1 w) (rs2 w))
    else if funct3 w = 0b100 then .ok (.xor (rd w) (rs1 w) (rs2 w))
    else if funct3 w = 0b101 then .ok (.srl (rd w) (rs1 w) (rs2 w))
    else if funct3 w = 0b110 then .ok (.or (rd w) (rs1 w) (rs2 w))
    else .ok (.and (rd w) (rs1 w) (rs2 w))
  else if funct7 w = 0b0000001 then
    if funct3 w = 0b000 then .ok (.mul (rd w) (rs1 w) (rs2 w))
    else if funct3 w = 0b001 then .ok (.mulh (rd w) (rs1 w) (rs2 w))
    else if funct3 w = 0b010 then .ok (.mulhsu (rd w) (rs1 w) (rs2 w))
    else if funct3 w = 0b011 then .ok (.mulhu (rd w) (rs1 w) (rs2 w))
    else if funct3 w = 0b100 then .ok (.div (rd w) (rs1 w) (rs2 w))
    else if funct3 w = 0b101 then .ok (.divu (rd w) (rs1 w) (rs2 w))
    else if funct3 w = 0b110 then .ok (.rem (rd w) (rs1 w) (rs2 w))
    else .ok (.remu (rd w) (rs1 w) (rs2 w))
  else if funct7 w = 0b0100000 then
    if funct3 w = 0b000 then .ok (.sub (rd w) (rs1 w) (rs2 w))
    else if funct3 w = 0b101 then .ok (.sra (rd w) (rs1 w) (rs2 w))
    else .error .opFunct3
  else .error .opFunct7

/-- MISC-MEM family (R510): only `funct3` is compared. -/
def decodeMiscMem (w : Word) : Except Reject Instr :=
  if funct3 w = 0b000 then .ok (.fence (w.extractLsb' 15 17) (rd w))
  else if funct3 w = 0b001 then .ok (.fenceI (w.extractLsb' 15 17) (rd w))
  else .error .miscMemFunct3

/-- SYSTEM family (R520). -/
def decodeSystem (w : Word) : Except Reject Instr :=
  if funct3 w = 0b000 then
    if rd w = 0 ∧ rs1 w = 0 then
      if f12 w = 0x000 then .ok .ecall
      else if f12 w = 0x001 then .ok .ebreak
      else if f12 w = 0x002 then .ok .uret
      else if f12 w = 0x102 then .ok .sret
      else if f12 w = 0x302 then .ok .mret
      else if f12 w = 0x105 then .ok .wfi
      else .error .systemF12
    else .error .systemRdRs1
  else if funct3 w = 0b001 then .ok (.csrrw (rd w) (csr w) (rs1 w))
  else if funct3 w = 0b010 then .ok (.csrrs (rd w) (csr w) (rs1 w))
  else if funct3 w = 0b011 then .ok (.csrrc (rd w) (csr w) (rs1 w))
  else if funct3 w = 0b101 then .ok (.csrrwi (rd w) (csr w) (rs1 w))
  else if funct3 w = 0b110 then .ok (.csrrsi (rd w) (csr w) (rs1 w))
  else if funct3 w = 0b111 then .ok (.csrrci (rd w) (csr w) (rs1 w))
  else .error .systemFunct3

/-- The instruction a 32-bit word is, or the name of the level that has no case for it: the opcode map
of R320, then the family's dispatch. Total on all words (R321, R602). -/
def decodeWord (w : Word) : Except Reject Instr :=
  if opcode w = 0b0110111 then .ok (.lui (rd w) (immU w))
  else if opcode w = 0b0010111 then .ok (.auipc (rd w) (immU w))
  else if opcode w = 0b1101111 then .ok (.jal (rd w) (rawJ w))
  else if opcode w = 0b1100111 then decodeJalr w
  else if opcode w = 0b1100011 then decodeBranch w
  else if opcode w = 0b0000011 then decodeLoad w
  else if opcode w = 0b0100011 then decodeStore w
  else if opcode w = 0b0010011 then decodeOpImm w
  else if opcode w = 0b0110011 then decodeOp w
  else if opcode w = 0b0001111 then decodeMiscMem w
  else if opcode w = 0b1110011 then decodeSystem w
  else .error .opcode

/-- The host's duty on a wider value: mask it to 32 bits (R101, R704). -/
def hostMask (n : Nat) : Word := BitVec.ofNat 32 n

/-- `w = b0 | b1<<8 | b2<<16 | b3<<24`, the assembly a host with a little-endian memory does before it
presents the word (R201). No part of the block. -/
def wordOfBytes (b0 b1 b2 b3 : Byte) : Word := b3 ++ b2 ++ b1 ++ b0

/-- The first instruction of a host's byte stream and the bytes after it. Every instruction is four
bytes long (R300). -/
def decodeBytes : List Byte → Except Reject (Instr × List Byte)
  | b0 :: b1 :: b2 :: b3 :: rest =>
    match decodeWord (wordOfBytes b0 b1 b2 b3) with
    | .ok i => .ok (i, rest)
    | .error r => .error r
  | _ => .error .truncated

/-- The word the host presents for `nbits` bits `w` of the opcode table, the bits above them zero. -/
def tableWord (nbits w : Nat) : Word := hostMask (w % 2 ^ nbits)

/-- The instruction the decoder reads from an instruction whose bits are `w`, numbered as
spec/opcode_table.json numbers them. -/
def decodeTableWord (nbits w : Nat) : Option Instr :=
  match decodeWord (tableWord nbits w) with
  | .ok i => some i
  | .error _ => none

/-! ## The encoder -/

/-- R layout: `funct7, rs2, rs1, funct3, rd, opcode` (R302). -/
def encR (funct7 : BitVec 7) (rs2 rs1 : RegNum) (funct3 : BitVec 3) (rd : RegNum) (opcode : BitVec 7) : Word :=
  funct7 ++ rs2 ++ rs1 ++ funct3 ++ rd ++ opcode

/-- I layout: `imm[11:0], rs1, funct3, rd, opcode` (R302); the CSR form has the address for the immediate. -/
def encI (imm : BitVec 12) (rs1 : RegNum) (funct3 : BitVec 3) (rd : RegNum) (opcode : BitVec 7) : Word :=
  imm ++ rs1 ++ funct3 ++ rd ++ opcode

/-- S layout: `imm[11:5], rs2, rs1, funct3, imm[4:0], opcode` (R302), opcode STORE. -/
def encS (imm : BitVec 12) (rs2 rs1 : RegNum) (funct3 : BitVec 3) : Word :=
  imm.extractLsb' 5 7 ++ rs2 ++ rs1 ++ funct3 ++ imm.extractLsb' 0 5 ++ 0b0100011#7

/-- B layout: `imm[12], imm[10:5], rs2, rs1, funct3, imm[4:1], imm[11], opcode` (R302), opcode BRANCH. -/
def encB (imm : BitVec 13) (rs2 rs1 : RegNum) (funct3 : BitVec 3) : Word :=
  imm.extractLsb' 12 1 ++ imm.extractLsb' 5 6 ++ rs2 ++ rs1 ++ funct3 ++ imm.extractLsb' 1 4 ++ imm.extractLsb' 11 1
    ++ 0b1100011#7

/-- U layout: `imm[31:12], rd, opcode` (R302). -/
def encU (imm : Word) (rd : RegNum) (opcode : BitVec 7) : Word := imm.extractLsb' 12 20 ++ rd ++ opcode

/-- J layout: `imm[20], imm[10:1], imm[11], imm[19:12], rd, opcode` (R302), opcode JAL. -/
def encJ (imm : BitVec 21) (rd : RegNum) : Word :=
  imm.extractLsb' 20 1 ++ imm.extractLsb' 1 10 ++ imm.extractLsb' 11 1 ++ imm.extractLsb' 12 8 ++ rd ++ 0b1101111#7

/-- MISC-MEM: the compared bits with the uncompared ones around them (R510). -/
def encM (hi : BitVec 17) (funct3 : BitVec 3) (lo : BitVec 5) : Word := hi ++ funct3 ++ lo ++ 0b0001111#7

/-- The word of an instruction, by the encoding its own rule gives. -/
def encode : Instr → Word
  | .lui rd imm => encU imm rd 0b0110111
  | .auipc rd imm => encU imm rd 0b0010111
  | .jal rd imm => encJ imm rd
  | .jalr rd rs1 imm => encI imm rs1 0b000 rd 0b1100111
  | .beq rs1 rs2 imm => encB imm rs2 rs1 0b000
  | .bne rs1 rs2 imm => encB imm rs2 rs1 0b001
  | .blt rs1 rs2 imm => encB imm rs2 rs1 0b100
  | .bge rs1 rs2 imm => encB imm rs2 rs1 0b101
  | .bltu rs1 rs2 imm => encB imm rs2 rs1 0b110
  | .bgeu rs1 rs2 imm => encB imm rs2 rs1 0b111
  | .lb rd rs1 imm => encI imm rs1 0b000 rd 0b0000011
  | .lh rd rs1 imm => encI imm rs1 0b001 rd 0b0000011
  | .lw rd rs1 imm => encI imm rs1 0b010 rd 0b0000011
  | .lbu rd rs1 imm => encI imm rs1 0b100 rd 0b0000011
  | .lhu rd rs1 imm => encI imm rs1 0b101 rd 0b0000011
  | .sb rs2 rs1 imm => encS imm rs2 rs1 0b000
  | .sh rs2 rs1 imm => encS imm rs2 rs1 0b001
  | .sw rs2 rs1 imm => encS imm rs2 rs1 0b010
  | .addi rd rs1 imm => encI imm rs1 0b000 rd 0b0010011
  | .slti rd rs1 imm => encI imm rs1 0b010 rd 0b0010011
  | .sltiu rd rs1 imm => encI imm rs1 0b011 rd 0b0010011
  | .xori rd rs1 imm => encI imm rs1 0b100 rd 0b0010011
  | .ori rd rs1 imm => encI imm rs1 0b110 rd 0b0010011
  | .andi rd rs1 imm => encI imm rs1 0b111 rd 0b0010011
  | .slli funct7 rd rs1 shamt => encR funct7 shamt rs1 0b001 rd 0b0010011
  | .srli rd rs1 shamt => encR 0b0000000 shamt rs1 0b101 rd 0b0010011
  | .srai rd rs1 shamt => encR 0b0100000 shamt rs1 0b101 rd 0b0010011
  | .add rd rs1 rs2 => encR 0b0000000 rs2 rs1 0b000 rd 0b0110011
  | .sub rd rs1 rs2 => encR 0b0100000 rs2 rs1 0b000 rd 0b0110011
  | .sll rd rs1 rs2 => encR 0b0000000 rs2 rs1 0b001 rd 0b0110011
  | .slt rd rs1 rs2 => encR 0b0000000 rs2 rs1 0b010 rd 0b0110011
  | .sltu rd rs1 rs2 => encR 0b0000000 rs2 rs1 0b011 rd 0b0110011
  | .xor rd rs1 rs2 => encR 0b0000000 rs2 rs1 0b100 rd 0b0110011
  | .srl rd rs1 rs2 => encR 0b0000000 rs2 rs1 0b101 rd 0b0110011
  | .sra rd rs1 rs2 => encR 0b0100000 rs2 rs1 0b101 rd 0b0110011
  | .or rd rs1 rs2 => encR 0b0000000 rs2 rs1 0b110 rd 0b0110011
  | .and rd rs1 rs2 => encR 0b0000000 rs2 rs1 0b111 rd 0b0110011
  | .mul rd rs1 rs2 => encR 0b0000001 rs2 rs1 0b000 rd 0b0110011
  | .mulh rd rs1 rs2 => encR 0b0000001 rs2 rs1 0b001 rd 0b0110011
  | .mulhsu rd rs1 rs2 => encR 0b0000001 rs2 rs1 0b010 rd 0b0110011
  | .mulhu rd rs1 rs2 => encR 0b0000001 rs2 rs1 0b011 rd 0b0110011
  | .div rd rs1 rs2 => encR 0b0000001 rs2 rs1 0b100 rd 0b0110011
  | .divu rd rs1 rs2 => encR 0b0000001 rs2 rs1 0b101 rd 0b0110011
  | .rem rd rs1 rs2 => encR 0b0000001 rs2 rs1 0b110 rd 0b0110011
  | .remu rd rs1 rs2 => encR 0b0000001 rs2 rs1 0b111 rd 0b0110011
  | .fence hi lo => encM hi 0b000 lo
  | .fenceI hi lo => encM hi 0b001 lo
  | .ecall => 0x00000073
  | .ebreak => 0x00100073
  | .uret => 0x00200073
  | .sret => 0x10200073
  | .mret => 0x30200073
  | .wfi => 0x10500073
  | .csrrw rd csr rs1 => encI csr rs1 0b001 rd 0b1110011
  | .csrrs rd csr rs1 => encI csr rs1 0b010 rd 0b1110011
  | .csrrc rd csr rs1 => encI csr rs1 0b011 rd 0b1110011
  | .csrrwi rd csr uimm => encI csr uimm 0b101 rd 0b1110011
  | .csrrsi rd csr uimm => encI csr uimm 0b110 rd 0b1110011
  | .csrrci rd csr uimm => encI csr uimm 0b111 rd 0b1110011

/-! ## The opcode table -/

/-- One row of spec/opcode_table.json: the mnemonic, the bits compared (`mask`, R323) and their values
(`value`, the table's `match`). -/
structure Row where
  mnemonic : String
  mask     : Word
  value    : Word
  deriving DecidableEq, Repr

/-- The row of an instruction, copied from spec/opcode_table.json; it is used by statements, not by
the decoder. -/
def tableRow : Instr → Row
  | .lui .. => ⟨"lui", 0x0000007f, 0x00000037⟩
  | .auipc .. => ⟨"auipc", 0x0000007f, 0x00000017⟩
  | .jal .. => ⟨"jal", 0x0000007f, 0x0000006f⟩
  | .jalr .. => ⟨"jalr", 0x0000707f, 0x00000067⟩
  | .beq .. => ⟨"beq", 0x0000707f, 0x00000063⟩
  | .bne .. => ⟨"bne", 0x0000707f, 0x00001063⟩
  | .blt .. => ⟨"blt", 0x0000707f, 0x00004063⟩
  | .bge .. => ⟨"bge", 0x0000707f, 0x00005063⟩
  | .bltu .. => ⟨"bltu", 0x0000707f, 0x00006063⟩
  | .bgeu .. => ⟨"bgeu", 0x0000707f, 0x00007063⟩
  | .lb .. => ⟨"lb", 0x0000707f, 0x00000003⟩
  | .lh .. => ⟨"lh", 0x0000707f, 0x00001003⟩
  | .lw .. => ⟨"lw", 0x0000707f, 0x00002003⟩
  | .lbu .. => ⟨"lbu", 0x0000707f, 0x00004003⟩
  | .lhu .. => ⟨"lhu", 0x0000707f, 0x00005003⟩
  | .sb .. => ⟨"sb", 0x0000707f, 0x00000023⟩
  | .sh .. => ⟨"sh", 0x0000707f, 0x00001023⟩
  | .sw .. => ⟨"sw", 0x0000707f, 0x00002023⟩
  | .addi .. => ⟨"addi", 0x0000707f, 0x00000013⟩
  | .slti .. => ⟨"slti", 0x0000707f, 0x00002013⟩
  | .sltiu .. => ⟨"sltiu", 0x0000707f, 0x00003013⟩
  | .xori .. => ⟨"xori", 0x0000707f, 0x00004013⟩
  | .ori .. => ⟨"ori", 0x0000707f, 0x00006013⟩
  | .andi .. => ⟨"andi", 0x0000707f, 0x00007013⟩
  | .slli .. => ⟨"slli", 0x0000707f, 0x00001013⟩
  | .srli .. => ⟨"srli", 0xfe00707f, 0x00005013⟩
  | .srai .. => ⟨"srai", 0xfe00707f, 0x40005013⟩
  | .add .. => ⟨"add", 0xfe00707f, 0x00000033⟩
  | .sub .. => ⟨"sub", 0xfe00707f, 0x40000033⟩
  | .sll .. => ⟨"sll", 0xfe00707f, 0x00001033⟩
  | .slt .. => ⟨"slt", 0xfe00707f, 0x00002033⟩
  | .sltu .. => ⟨"sltu", 0xfe00707f, 0x00003033⟩
  | .xor .. => ⟨"xor", 0xfe00707f, 0x00004033⟩
  | .srl .. => ⟨"srl", 0xfe00707f, 0x00005033⟩
  | .sra .. => ⟨"sra", 0xfe00707f, 0x40005033⟩
  | .or .. => ⟨"or", 0xfe00707f, 0x00006033⟩
  | .and .. => ⟨"and", 0xfe00707f, 0x00007033⟩
  | .mul .. => ⟨"mul", 0xfe00707f, 0x02000033⟩
  | .mulh .. => ⟨"mulh", 0xfe00707f, 0x02001033⟩
  | .mulhsu .. => ⟨"mulhsu", 0xfe00707f, 0x02002033⟩
  | .mulhu .. => ⟨"mulhu", 0xfe00707f, 0x02003033⟩
  | .div .. => ⟨"div", 0xfe00707f, 0x02004033⟩
  | .divu .. => ⟨"divu", 0xfe00707f, 0x02005033⟩
  | .rem .. => ⟨"rem", 0xfe00707f, 0x02006033⟩
  | .remu .. => ⟨"remu", 0xfe00707f, 0x02007033⟩
  | .fence .. => ⟨"fence", 0x0000707f, 0x0000000f⟩
  | .fenceI .. => ⟨"fence.i", 0x0000707f, 0x0000100f⟩
  | .ecall => ⟨"ecall", 0xffffffff, 0x00000073⟩
  | .ebreak => ⟨"ebreak", 0xffffffff, 0x00100073⟩
  | .uret => ⟨"uret", 0xffffffff, 0x00200073⟩
  | .sret => ⟨"sret", 0xffffffff, 0x10200073⟩
  | .mret => ⟨"mret", 0xffffffff, 0x30200073⟩
  | .wfi => ⟨"wfi", 0xffffffff, 0x10500073⟩
  | .csrrw .. => ⟨"csrrw", 0x0000707f, 0x00001073⟩
  | .csrrs .. => ⟨"csrrs", 0x0000707f, 0x00002073⟩
  | .csrrc .. => ⟨"csrrc", 0x0000707f, 0x00003073⟩
  | .csrrwi .. => ⟨"csrrwi", 0x0000707f, 0x00005073⟩
  | .csrrsi .. => ⟨"csrrsi", 0x0000707f, 0x00006073⟩
  | .csrrci .. => ⟨"csrrci", 0x0000707f, 0x00007073⟩

end Sys2Proof
end

