-- ==== Sys2Proof/Config.lean ====
section
/-! DEFINITION. The block's two parameters (R9, R120), as plain data. Their values for this hardware
are `defaultParams` in Sys2Proof/Machine/CsrNames.lean. -/

namespace Sys2Proof

/-- The parameters R9 names: the width of the mnemonic field (`COLUMN`) and the CSR name table
(`CSR_NAMES`), listed as address and name; an address not listed has no name (R121). -/
structure Params where
  column   : Nat
  csrNames : List (CsrAddr × String)
  deriving DecidableEq, Repr

end Sys2Proof
end

