-- ==== Sys2Proof/Machine/Text.lean ====
section
/-! DEFINITION. The text primitives of R13 and the CSR name resolver of R122. -/

namespace Sys2Proof.Machine

/-- The decimal digits of `n`, most significant first, with `fuel` at least the number of digits. -/
def decDigits : Nat → Nat → List Char
  | 0, _ => []
  | fuel + 1, n => if n < 10 then [Nat.digitChar n] else decDigits fuel (n / 10) ++ [Nat.digitChar (n % 10)]

/-- The decimal spelling of a natural number: no leading zeros, `"0"` for zero (R13). -/
def decNat (n : Nat) : String := String.ofList (decDigits (n + 1) n)

/-- `dec(n)`: the decimal spelling of an integer, a leading `-` when `n < 0` (R13). -/
def dec (n : Int) : String := if n < 0 then "-" ++ decNat n.natAbs else decNat n.natAbs

/-- The lowest `k` hexadecimal digits of `v`, lowercase, most significant first. -/
def hexDigits : Nat → Nat → List Char
  | 0, _ => []
  | k + 1, v => hexDigits k (v / 16) ++ [Nat.digitChar (v % 16)]

/-- `hex(v, k)`: exactly `k` lowercase hexadecimal digits, zero padded on the left (R13). -/
def hex (v k : Nat) : String := String.ofList (hexDigits k v)

/-- `spaces(n)`; a number below zero, which a natural number rounds up to zero, gives the empty string (R13). -/
def spaces (n : Nat) : String := String.ofList (List.replicate n ' ')

/-- `pad(s, n) = s ++ spaces(n - len(s))` (R13). -/
def pad (s : String) (n : Nat) : String := s ++ spaces (n - s.length)

/-- `join(sep, [a1, ..., ak])`, the empty string for an empty list (R13). -/
def join (sep : String) : List String → String
  | [] => ""
  | [a] => a
  | a :: b :: rest => a ++ sep ++ join sep (b :: rest)

/-- `CSR_NAMES(a)` under the parameters `p` (R120). -/
def csrNames (p : Params) (a : CsrAddr) : Option String := p.csrNames.lookup a

/-- `csrname(a)`: the name, or `$0x` and three lowercase hexadecimal digits when the table has none (R122). -/
def csrname (p : Params) (a : CsrAddr) : String :=
  match csrNames p a with
  | some s => s
  | none => "$0x" ++ hex a.toNat 3

end Sys2Proof.Machine
end

