-- ==== Sys2Proof/Machine/Operands.lean ====
section
/-! DEFINITION. Operands (R15), their text (R341 to R347), the operand lists of each shape (R349) and
the rendering of an instruction's text (R340). The block has no flags (R112), so there is no file of
flag computations. -/

namespace Sys2Proof.Machine

/-- The operands of R15. -/
inductive Operand where
  | reg (n : RegNum)
  | imm (i : Int)
  | u32 (v : Word)
  | pcRel (o : Int)
  | mem (i : Int) (n : RegNum)
  | csr (a : CsrAddr)
  | lit8 (v : Word)
  deriving DecidableEq, Repr

/-- `"x" ++ dec(n)` (R110, R341). -/
def regText (n : RegNum) : String := "x" ++ decNat n.toNat

/-- `"." ++ s ++ "0x" ++ hex(|o|, 8)`, `s` the offset's sign, `+` for zero (R344). -/
def pcRelText (o : Int) : String := "." ++ (if o < 0 then "-" else "+") ++ "0x" ++ hex o.natAbs 8

/-- `optext` (R341 to R347). -/
def optext (p : Params) : Operand → String
  | .reg n => regText n
  | .imm i => dec i
  | .u32 v => "0x" ++ hex v.toNat 8
  | .pcRel o => pcRelText o
  | .mem i n => dec i ++ "(" ++ regText n ++ ")"
  | .csr a => csrname p a
  | .lit8 v => "0x" ++ hex v.toNat 8

/-- `render(mn, ops)`: the bare mnemonic without operands, else the mnemonic padded to `COLUMN` and the
operands separated by `", "` (R340). -/
def render (p : Params) (mn : String) (ops : List Operand) : String :=
  match ops with
  | [] => mn
  | _ :: _ => pad mn p.column ++ join ", " (ops.map (optext p))

/-! The operand shapes of R349, from an instruction's fields. -/

/-- Class U: `Reg(rd), U32(imm_u)`. -/
def opsU (rd : RegNum) (imm : Word) : List Operand := [.reg rd, .u32 imm]
/-- Class J: `Reg(rd), PcRel(imm_j)`. -/
def opsJ (rd : RegNum) (imm : BitVec 21) : List Operand := [.reg rd, .pcRel (signed (sext imm))]
/-- Classes I-jump and I-load: `Reg(rd), Mem(imm_i, rs1)`. -/
def opsLoad (rd rs1 : RegNum) (imm : BitVec 12) : List Operand := [.reg rd, .mem (signed (sext imm)) rs1]
/-- Class B: `Reg(rs1), Reg(rs2), PcRel(imm_b)`. -/
def opsB (rs1 rs2 : RegNum) (imm : BitVec 13) : List Operand := [.reg rs1, .reg rs2, .pcRel (signed (sext imm))]
/-- Class S: `Reg(rs2), Mem(imm_s, rs1)`. -/
def opsS (rs2 rs1 : RegNum) (imm : BitVec 12) : List Operand := [.reg rs2, .mem (signed (sext imm)) rs1]
/-- Class I-alu: `Reg(rd), Reg(rs1), Imm(imm_i)`. -/
def opsAlu (rd rs1 : RegNum) (imm : BitVec 12) : List Operand := [.reg rd, .reg rs1, .imm (signed (sext imm))]
/-- Class I-shift: `Reg(rd), Reg(rs1), Imm(shamt)`, the amount unsigned (R310). -/
def opsShift (rd rs1 : RegNum) (shamt : BitVec 5) : List Operand := [.reg rd, .reg rs1, .imm shamt.toNat]
/-- Class R: `Reg(rd), Reg(rs1), Reg(rs2)`. -/
def opsR (rd rs1 rs2 : RegNum) : List Operand := [.reg rd, .reg rs1, .reg rs2]
/-- Class CSR-reg: `Reg(rd), Csr(csr), Reg(rs1)` (R530). -/
def opsCsr (rd : RegNum) (csr : CsrAddr) (rs1 : RegNum) : List Operand := [.reg rd, .csr csr, .reg rs1]
/-- Class CSR-imm: `Reg(rd), Csr(csr), Lit8(rs1)`, the `rs1` field itself as the literal (R312, R530). -/
def opsCsrImm (rd : RegNum) (csr : CsrAddr) (uimm : BitVec 5) : List Operand := [.reg rd, .csr csr, .lit8 (zext uimm)]

end Sys2Proof.Machine
end

