-- ==== Sys2Proof/Machine/CsrNames.lean ====
section
/-! DEFINITION. The default CSR name table of R121 (log entry 3) and the parameters' values for this
hardware (R9). -/

namespace Sys2Proof.Machine

/-- A run of `count` entries, indexes `first, first + 1, ...`: index `n` stands at address `base + n`
under the name `prefix` followed by `dec(n)` and `suffix` (R121). -/
def csrFamily (base : Nat) (pre suf : String) (first count : Nat) : List (CsrAddr × String) :=
  (List.range' first count).map fun n => (BitVec.ofNat 12 (base + n), pre ++ decNat n ++ suf)

/-- The user-level names of R121. -/
def csrUser : List (CsrAddr × String) :=
  [(0x000, "ustatus"), (0x001, "fflags"), (0x002, "frm"), (0x003, "fcsr"), (0x004, "uie"), (0x005, "utvec"),
   (0x040, "uscratch"), (0x041, "uepc"), (0x042, "ucause"), (0x043, "utval"), (0x044, "uip")]

/-- The supervisor-level names of R121. -/
def csrSupervisor : List (CsrAddr × String) :=
  [(0x100, "sstatus"), (0x102, "sedeleg"), (0x103, "sideleg"), (0x104, "sie"), (0x105, "stvec"), (0x106, "scounteren"),
   (0x140, "sscratch"), (0x141, "sepc"), (0x142, "scause"), (0x143, "stval"), (0x144, "sip"), (0x180, "satp")]

/-- The machine-level names of R121; `mip` at 0x344 is fixed by the source (R120). -/
def csrMachine : List (CsrAddr × String) :=
  [(0x300, "mstatus"), (0x301, "misa"), (0x302, "medeleg"), (0x303, "mideleg"), (0x304, "mie"), (0x305, "mtvec"),
   (0x306, "mcounteren"), (0x320, "mcountinhibit"), (0x340, "mscratch"), (0x341, "mepc"), (0x342, "mcause"),
   (0x343, "mtval"), (0x344, "mip"), (0xf11, "mvendorid"), (0xf12, "marchid"), (0xf13, "mimpid"), (0xf14, "mhartid")]

/-- The trigger and debug names of R121. -/
def csrDebug : List (CsrAddr × String) :=
  [(0x7a0, "tselect"), (0x7a1, "tdata1"), (0x7a2, "tdata2"), (0x7a3, "tdata3"),
   (0x7b0, "dcsr"), (0x7b1, "dpc"), (0x7b2, "dscratch0"), (0x7b3, "dscratch1")]

/-- The fixed counter names of R121. -/
def csrCounters : List (CsrAddr × String) :=
  [(0xb00, "mcycle"), (0xb02, "minstret"), (0xb80, "mcycleh"), (0xb82, "minstreth"),
   (0xc00, "cycle"), (0xc01, "time"), (0xc02, "instret"), (0xc80, "cycleh"), (0xc81, "timeh"), (0xc82, "instreth")]

/-- The 58 fixed names of R121. -/
def csrFixed : List (CsrAddr × String) := csrUser ++ csrSupervisor ++ csrMachine ++ csrDebug ++ csrCounters

/-- The 20 physical memory protection names of R121. -/
def csrPmp : List (CsrAddr × String) := csrFamily 0x3a0 "pmpcfg" "" 0 4 ++ csrFamily 0x3b0 "pmpaddr" "" 0 16

/-- The five generated families, indexes 3 to 31 (R120, R121). -/
def csrGenerated : List (CsrAddr × String) :=
  csrFamily 0x320 "mhpmevent" "" 3 29 ++ csrFamily 0xb00 "mhpmcounter" "" 3 29 ++ csrFamily 0xb80 "mhpmcounter" "h" 3 29
    ++ csrFamily 0xc00 "hpmcounter" "" 3 29 ++ csrFamily 0xc80 "hpmcounter" "h" 3 29

/-- The default `CSR_NAMES` of R121. -/
def defaultCsrNames : List (CsrAddr × String) := csrFixed ++ csrPmp ++ csrGenerated

/-- The parameters of this hardware: `COLUMN` is 9, `CSR_NAMES` the default table (R9). -/
def defaultParams : Params := { column := 9, csrNames := defaultCsrNames }

end Sys2Proof.Machine
end

