-- ==== Sys2Proof/Machine/State.lean ====
section
/-! DEFINITION. The block's state (R104, R108), its results (R14), the ways a step could stop, and the
state after reset (R701). -/

namespace Sys2Proof.Machine

/-- `DecodeResult ::= Text(s) | NoMatch(w)` (R14). -/
inductive DecodeResult where
  /-- The formatted mnemonic string. -/
  | text (s : String)
  /-- The "unrecognized instruction" indicator, with the raw input word (R600). -/
  | noMatch (w : Word)
  deriving DecidableEq, Repr

/-- The one-entry cache, `Idle | Held(word, result)` (R104). -/
inductive Cache where
  /-- The sentinel before the first word. -/
  | idle
  /-- The last word taken and its result. -/
  | held (word : Word) (result : DecodeResult)
  deriving DecidableEq, Repr

/-- What the `result` port presents: the sentinel `Idle`, or a result (R103). -/
inductive Port where
  | idle
  | presents (r : DecodeResult)
  deriving DecidableEq, Repr

/-- The state of one instance. `cache` is the block's only state (R104, R108). The other two fields are
the model's own: `events` the words the host has presented and the block has not yet taken, oldest
first (R102; log entry 1), and `params` the block's constant parameters, which nothing writes (R9,
R120, R123; log entry 2). -/
structure State where
  cache  : Cache
  events : List Word
  params : Params
  deriving DecidableEq, Repr

/-- The faults of the machine: there is none, so nobody raises one. The block's one error-like outcome
is a normal result, `DecodeResult.noMatch` (R600, R602). -/
inductive Fault
  deriving DecidableEq, Repr

/-- The refusals of the machine; no instruction of this model raises one. -/
inductive Refusal where
  /-- An instruction without a meaning; raised by an arm of `exec` that has none (there is no such arm).
  Safe: the run stops where the hardware goes on. -/
  | notModelled (mnemonic : String)
  deriving DecidableEq, Repr

/-- An instance right after its creation (R700, R701): the cache `Idle`, the CSR name table and the
column width at their constants, and no word presented yet. -/
def State.reset : State := { cache := .idle, events := [], params := defaultParams }

end Sys2Proof.Machine
end

