-- ==== Sys2Proof/Machine/Ops.lean ====
section
/-! DEFINITION. The operations over the state: the host's event (R102), the cache gate (R106), the two
ports' views, and the two ways an event is answered, a text and no match. The block has no registers,
no memory and no trap (R110, R200, R605), so there are no operations over them. -/

namespace Sys2Proof.Machine

/-- What a step of this machine answers. -/
abbrev Result := Host.Outcome State Fault Refusal

/-- What the `result` port presents: the sentinel before the first word, then the held result (R103, R106). -/
def Cache.port : Cache → Port
  | .idle => .idle
  | .held _ r => .presents r

/-- The valid bit of a hardware realisation: 0 exactly in `Idle` (R104). -/
def Cache.valid : Cache → Bool
  | .idle => false
  | .held _ _ => true

/-- The gate's step on `onNewWord(w)`, `r` being the result of decoding `w`: no change when `w` is the
held word, else `w` and `r` replace the entry. `Idle` always takes the second arm (R106). -/
def Cache.onNewWord (c : Cache) (w : Word) (r : DecodeResult) : Cache :=
  match c with
  | .idle => .held w r
  | .held cw cr => if cw = w then .held cw cr else .held w r

/-- What the instance's `result` port presents (R103). -/
def State.port (s : State) : Port := s.cache.port

/-- The state with another cache. -/
def State.withCache (s : State) (c : Cache) : State := { s with cache := c }

/-- The state with other events to take. -/
def State.withEvents (s : State) (es : List Word) : State := { s with events := es }

/-- The host presents a word: it is taken after those presented before it (R102). -/
def State.present (s : State) (w : Word) : State := s.withEvents (s.events ++ [w])

/-- The gate's step in the instance's state (R106). -/
def State.onNewWord (s : State) (w : Word) (r : DecodeResult) : State := s.withCache (s.cache.onNewWord w r)

/-- The event whose word `w` decodes to the mnemonic `mn` with the operands `ops`: the gate takes `w`
with `Text(render(mn, ops))` (R106, R321). -/
def takeText (w : Word) (mn : String) (ops : List Operand) (s : State) : Result :=
  .next (s.onNewWord w (.text (render s.params mn ops)))

/-- The event whose word is no recognised instruction: the gate takes `w` with `NoMatch(w)`, a normal
result (R106, R600). -/
def takeNoMatch (w : Word) (s : State) : Result := .next (s.onNewWord w (.noMatch w))

end Sys2Proof.Machine
end

