-- ==== Sys2Proof/Machine/Branch.lean ====
section
/-! DEFINITION. The conditional branches (R420 to R426): no register is compared and no target is formed (R111). The meaning of an
instruction is the event of its word: the gate takes the word with its text (R106, R321). -/

namespace Sys2Proof.Machine

/-- `beq` (R421). -/
def execBeq (rs1 rs2 : RegNum) (imm : BitVec 13) (s : State) : Result := takeText (encode (.beq rs1 rs2 imm)) "beq" (opsB rs1 rs2 imm) s

/-- `bne` (R422). -/
def execBne (rs1 rs2 : RegNum) (imm : BitVec 13) (s : State) : Result := takeText (encode (.bne rs1 rs2 imm)) "bne" (opsB rs1 rs2 imm) s

/-- `blt` (R423). -/
def execBlt (rs1 rs2 : RegNum) (imm : BitVec 13) (s : State) : Result := takeText (encode (.blt rs1 rs2 imm)) "blt" (opsB rs1 rs2 imm) s

/-- `bge` (R424). -/
def execBge (rs1 rs2 : RegNum) (imm : BitVec 13) (s : State) : Result := takeText (encode (.bge rs1 rs2 imm)) "bge" (opsB rs1 rs2 imm) s

/-- `bltu` (R425). -/
def execBltu (rs1 rs2 : RegNum) (imm : BitVec 13) (s : State) : Result := takeText (encode (.bltu rs1 rs2 imm)) "bltu" (opsB rs1 rs2 imm) s

/-- `bgeu` (R426). -/
def execBgeu (rs1 rs2 : RegNum) (imm : BitVec 13) (s : State) : Result := takeText (encode (.bgeu rs1 rs2 imm)) "bgeu" (opsB rs1 rs2 imm) s

end Sys2Proof.Machine
end

