-- ==== Sys2Proof/Machine/LoadStore.lean ====
section
/-! DEFINITION. The loads and stores (R440 to R453): no address is formed and no memory read or written (R200, R203). The meaning of an
instruction is the event of its word: the gate takes the word with its text (R106, R321). -/

namespace Sys2Proof.Machine

/-- `lb` (R441). -/
def execLb (rd rs1 : RegNum) (imm : BitVec 12) (s : State) : Result := takeText (encode (.lb rd rs1 imm)) "lb" (opsLoad rd rs1 imm) s

/-- `lh` (R442). -/
def execLh (rd rs1 : RegNum) (imm : BitVec 12) (s : State) : Result := takeText (encode (.lh rd rs1 imm)) "lh" (opsLoad rd rs1 imm) s

/-- `lw` (R443). -/
def execLw (rd rs1 : RegNum) (imm : BitVec 12) (s : State) : Result := takeText (encode (.lw rd rs1 imm)) "lw" (opsLoad rd rs1 imm) s

/-- `lbu` (R444). -/
def execLbu (rd rs1 : RegNum) (imm : BitVec 12) (s : State) : Result := takeText (encode (.lbu rd rs1 imm)) "lbu" (opsLoad rd rs1 imm) s

/-- `lhu` (R445). -/
def execLhu (rd rs1 : RegNum) (imm : BitVec 12) (s : State) : Result := takeText (encode (.lhu rd rs1 imm)) "lhu" (opsLoad rd rs1 imm) s

/-- `sb` (R451). -/
def execSb (rs2 rs1 : RegNum) (imm : BitVec 12) (s : State) : Result := takeText (encode (.sb rs2 rs1 imm)) "sb" (opsS rs2 rs1 imm) s

/-- `sh` (R452). -/
def execSh (rs2 rs1 : RegNum) (imm : BitVec 12) (s : State) : Result := takeText (encode (.sh rs2 rs1 imm)) "sh" (opsS rs2 rs1 imm) s

/-- `sw` (R453). -/
def execSw (rs2 rs1 : RegNum) (imm : BitVec 12) (s : State) : Result := takeText (encode (.sw rs2 rs1 imm)) "sw" (opsS rs2 rs1 imm) s

end Sys2Proof.Machine
end

