-- ==== Sys2Proof/Machine/MiscMem.lean ====
section
/-! DEFINITION. FENCE and FENCE.I (R510 to R512): they order nothing (R207, R209). The meaning of an
instruction is the event of its word: the gate takes the word with its text (R106, R321). -/

namespace Sys2Proof.Machine

/-- `fence` (R511). -/
def execFence (hi : BitVec 17) (lo : BitVec 5) (s : State) : Result := takeText (encode (.fence hi lo)) "fence" [] s

/-- `fence.i` (R512). -/
def execFenceI (hi : BitVec 17) (lo : BitVec 5) (s : State) : Result := takeText (encode (.fenceI hi lo)) "fence.i" [] s

end Sys2Proof.Machine
end

