-- ==== Sys2Proof/Machine/Op.lean ====
section
/-! DEFINITION. The OP instructions and the M extension (R480 to R498): no result is computed, so there is no division by zero. The meaning of an
instruction is the event of its word: the gate takes the word with its text (R106, R321). -/

namespace Sys2Proof.Machine

/-- `add` (R481). -/
def execAdd (rd rs1 rs2 : RegNum) (s : State) : Result := takeText (encode (.add rd rs1 rs2)) "add" (opsR rd rs1 rs2) s

/-- `sub` (R482). -/
def execSub (rd rs1 rs2 : RegNum) (s : State) : Result := takeText (encode (.sub rd rs1 rs2)) "sub" (opsR rd rs1 rs2) s

/-- `sll` (R483). -/
def execSll (rd rs1 rs2 : RegNum) (s : State) : Result := takeText (encode (.sll rd rs1 rs2)) "sll" (opsR rd rs1 rs2) s

/-- `slt` (R484). -/
def execSlt (rd rs1 rs2 : RegNum) (s : State) : Result := takeText (encode (.slt rd rs1 rs2)) "slt" (opsR rd rs1 rs2) s

/-- `sltu` (R485). -/
def execSltu (rd rs1 rs2 : RegNum) (s : State) : Result := takeText (encode (.sltu rd rs1 rs2)) "sltu" (opsR rd rs1 rs2) s

/-- `xor` (R486). -/
def execXor (rd rs1 rs2 : RegNum) (s : State) : Result := takeText (encode (.xor rd rs1 rs2)) "xor" (opsR rd rs1 rs2) s

/-- `srl` (R487). -/
def execSrl (rd rs1 rs2 : RegNum) (s : State) : Result := takeText (encode (.srl rd rs1 rs2)) "srl" (opsR rd rs1 rs2) s

/-- `sra` (R488). -/
def execSra (rd rs1 rs2 : RegNum) (s : State) : Result := takeText (encode (.sra rd rs1 rs2)) "sra" (opsR rd rs1 rs2) s

/-- `or` (R489). -/
def execOr (rd rs1 rs2 : RegNum) (s : State) : Result := takeText (encode (.or rd rs1 rs2)) "or" (opsR rd rs1 rs2) s

/-- `and` (R490). -/
def execAnd (rd rs1 rs2 : RegNum) (s : State) : Result := takeText (encode (.and rd rs1 rs2)) "and" (opsR rd rs1 rs2) s

/-- `mul` (R491). -/
def execMul (rd rs1 rs2 : RegNum) (s : State) : Result := takeText (encode (.mul rd rs1 rs2)) "mul" (opsR rd rs1 rs2) s

/-- `mulh` (R492). -/
def execMulh (rd rs1 rs2 : RegNum) (s : State) : Result := takeText (encode (.mulh rd rs1 rs2)) "mulh" (opsR rd rs1 rs2) s

/-- `mulhsu` (R493). -/
def execMulhsu (rd rs1 rs2 : RegNum) (s : State) : Result := takeText (encode (.mulhsu rd rs1 rs2)) "mulhsu" (opsR rd rs1 rs2) s

/-- `mulhu` (R494). -/
def execMulhu (rd rs1 rs2 : RegNum) (s : State) : Result := takeText (encode (.mulhu rd rs1 rs2)) "mulhu" (opsR rd rs1 rs2) s

/-- `div` (R495). -/
def execDiv (rd rs1 rs2 : RegNum) (s : State) : Result := takeText (encode (.div rd rs1 rs2)) "div" (opsR rd rs1 rs2) s

/-- `divu` (R496). -/
def execDivu (rd rs1 rs2 : RegNum) (s : State) : Result := takeText (encode (.divu rd rs1 rs2)) "divu" (opsR rd rs1 rs2) s

/-- `rem` (R497). -/
def execRem (rd rs1 rs2 : RegNum) (s : State) : Result := takeText (encode (.rem rd rs1 rs2)) "rem" (opsR rd rs1 rs2) s

/-- `remu` (R498). -/
def execRemu (rd rs1 rs2 : RegNum) (s : State) : Result := takeText (encode (.remu rd rs1 rs2)) "remu" (opsR rd rs1 rs2) s

end Sys2Proof.Machine
end

