-- ==== Sys2Proof/Machine/OpImm.lean ====
section
/-! DEFINITION. The OP-IMM instructions (R460 to R469): only the immediate's sign extension is computed (R303). The meaning of an
instruction is the event of its word: the gate takes the word with its text (R106, R321). -/

namespace Sys2Proof.Machine

/-- `addi` (R461). -/
def execAddi (rd rs1 : RegNum) (imm : BitVec 12) (s : State) : Result := takeText (encode (.addi rd rs1 imm)) "addi" (opsAlu rd rs1 imm) s

/-- `slti` (R462). -/
def execSlti (rd rs1 : RegNum) (imm : BitVec 12) (s : State) : Result := takeText (encode (.slti rd rs1 imm)) "slti" (opsAlu rd rs1 imm) s

/-- `sltiu` (R463). -/
def execSltiu (rd rs1 : RegNum) (imm : BitVec 12) (s : State) : Result := takeText (encode (.sltiu rd rs1 imm)) "sltiu" (opsAlu rd rs1 imm) s

/-- `xori` (R464). -/
def execXori (rd rs1 : RegNum) (imm : BitVec 12) (s : State) : Result := takeText (encode (.xori rd rs1 imm)) "xori" (opsAlu rd rs1 imm) s

/-- `ori` (R465). -/
def execOri (rd rs1 : RegNum) (imm : BitVec 12) (s : State) : Result := takeText (encode (.ori rd rs1 imm)) "ori" (opsAlu rd rs1 imm) s

/-- `andi` (R466). -/
def execAndi (rd rs1 : RegNum) (imm : BitVec 12) (s : State) : Result := takeText (encode (.andi rd rs1 imm)) "andi" (opsAlu rd rs1 imm) s

/-- `slli` (R467). -/
def execSlli (funct7 : BitVec 7) (rd rs1 : RegNum) (shamt : BitVec 5) (s : State) : Result := takeText (encode (.slli funct7 rd rs1 shamt)) "slli" (opsShift rd rs1 shamt) s

/-- `srli` (R468). -/
def execSrli (rd rs1 : RegNum) (shamt : BitVec 5) (s : State) : Result := takeText (encode (.srli rd rs1 shamt)) "srli" (opsShift rd rs1 shamt) s

/-- `srai` (R469). -/
def execSrai (rd rs1 : RegNum) (shamt : BitVec 5) (s : State) : Result := takeText (encode (.srai rd rs1 shamt)) "srai" (opsShift rd rs1 shamt) s

end Sys2Proof.Machine
end

