-- ==== Sys2Proof/Machine/System.lean ====
section
/-! DEFINITION. The SYSTEM instructions (R520 to R536): no trap is taken, no mode or CSR is read or written, nothing is waited for (R605, R606, R124). The meaning of an
instruction is the event of its word: the gate takes the word with its text (R106, R321). -/

namespace Sys2Proof.Machine

/-- `ecall` (R521). -/
def execEcall (s : State) : Result := takeText (encode .ecall) "ecall" [] s

/-- `ebreak` (R522). -/
def execEbreak (s : State) : Result := takeText (encode .ebreak) "ebreak" [] s

/-- `uret` (R523). -/
def execUret (s : State) : Result := takeText (encode .uret) "uret" [] s

/-- `sret` (R524). -/
def execSret (s : State) : Result := takeText (encode .sret) "sret" [] s

/-- `mret` (R525). -/
def execMret (s : State) : Result := takeText (encode .mret) "mret" [] s

/-- `wfi` (R526). -/
def execWfi (s : State) : Result := takeText (encode .wfi) "wfi" [] s

/-- `csrrw` (R531). -/
def execCsrrw (rd : RegNum) (csr : CsrAddr) (rs1 : RegNum) (s : State) : Result := takeText (encode (.csrrw rd csr rs1)) "csrrw" (opsCsr rd csr rs1) s

/-- `csrrs` (R532). -/
def execCsrrs (rd : RegNum) (csr : CsrAddr) (rs1 : RegNum) (s : State) : Result := takeText (encode (.csrrs rd csr rs1)) "csrrs" (opsCsr rd csr rs1) s

/-- `csrrc` (R533). -/
def execCsrrc (rd : RegNum) (csr : CsrAddr) (rs1 : RegNum) (s : State) : Result := takeText (encode (.csrrc rd csr rs1)) "csrrc" (opsCsr rd csr rs1) s

/-- `csrrwi` (R534). -/
def execCsrrwi (rd : RegNum) (csr : CsrAddr) (uimm : BitVec 5) (s : State) : Result := takeText (encode (.csrrwi rd csr uimm)) "csrrwi" (opsCsrImm rd csr uimm) s

/-- `csrrsi` (R535). -/
def execCsrrsi (rd : RegNum) (csr : CsrAddr) (uimm : BitVec 5) (s : State) : Result := takeText (encode (.csrrsi rd csr uimm)) "csrrsi" (opsCsrImm rd csr uimm) s

/-- `csrrci` (R536). -/
def execCsrrci (rd : RegNum) (csr : CsrAddr) (uimm : BitVec 5) (s : State) : Result := takeText (encode (.csrrci rd csr uimm)) "csrrci" (opsCsrImm rd csr uimm) s

end Sys2Proof.Machine
end

