-- ==== Sys2Proof/Machine/UpperJump.lean ====
section
/-! DEFINITION. LUI, AUIPC, JAL and JALR (R400 to R404): no upper immediate is added to a pc and no target is formed (R111). The meaning of an
instruction is the event of its word: the gate takes the word with its text (R106, R321). -/

namespace Sys2Proof.Machine

/-- `lui` (R400). -/
def execLui (rd : RegNum) (imm : Word) (s : State) : Result := takeText (encode (.lui rd imm)) "lui" (opsU rd imm) s

/-- `auipc` (R401). -/
def execAuipc (rd : RegNum) (imm : Word) (s : State) : Result := takeText (encode (.auipc rd imm)) "auipc" (opsU rd imm) s

/-- `jal` (R402). -/
def execJal (rd : RegNum) (imm : BitVec 21) (s : State) : Result := takeText (encode (.jal rd imm)) "jal" (opsJ rd imm) s

/-- `jalr` (R404). -/
def execJalr (rd rs1 : RegNum) (imm : BitVec 12) (s : State) : Result := takeText (encode (.jalr rd rs1 imm)) "jalr" (opsLoad rd rs1 imm) s

end Sys2Proof.Machine
end

