-- ==== Sys2Proof/Machine/Step.lean ====
section
/-! DEFINITION. One step: the block takes the host's next event, one indivisible step per event (R102,
R706). With no event the block does nothing (R100; log entry 1). -/

namespace Sys2Proof.Machine

/-- The step. A word that decodes is the event of its instruction; any other is answered `NoMatch`
(R321, R330, R331). -/
def step (s : State) : Host.Outcome State Fault Refusal :=
  match s.events with
  | [] => .next s
  | w :: rest =>
    match decodeWord w with
    | .ok i => exec i (s.withEvents rest)
    | .error _ => takeNoMatch w (s.withEvents rest)

/-- The state in which the host's next event is the word of `nbits` bits `w` (log entry 9). -/
def State.withFetchWord (s : State) (nbits w : Nat) : State := s.withEvents (tableWord nbits w :: s.events)

end Sys2Proof.Machine
end

