-- ==== Sys2Proof/Machine/Instances.lean ====
section
/-! DEFINITION. Several instances of the block in one host (R608): each has its own cache, and all have
the one read-only CSR table. -/

namespace Sys2Proof.Machine

/-- The instances of one host. -/
abbrev Instances := List State

/-- Instances just created, all with the host's one table `p` (R608, R700). -/
def instancesReset (p : Params) (count : Nat) : Instances :=
  List.replicate count { cache := .idle, events := [], params := p }

/-- The instances share one table (R608). -/
def sharesTable (p : Params) (insts : Instances) : Prop := ∀ s ∈ insts, s.params = p

/-- The host presents `w` to instance `k`. -/
def presentTo (insts : Instances) (k : Nat) (w : Word) : Instances := insts.modify k fun s => s.present w

/-- Instance `k` takes a step, the others stand still. With no instance `k` nothing happens. -/
def stepInstance (insts : Instances) (k : Nat) : Host.Outcome Instances Fault Refusal :=
  match insts[k]? with
  | none => .next insts
  | some s =>
    match step s with
    | .next t => .next (insts.set k t)
    | .fault f => .fault f
    | .refused r => .refused r

end Sys2Proof.Machine
end

