-- ==== Sys2Proof/Machine/Realisation.lean ====
section
/-! DEFINITION. The registers a hardware realisation of the cache holds (R104): a valid bit, a word
register and a result register, with the reset values of R701 and the gate over them. They are another
view of `State.cache`, and are stated to refine it. -/

namespace Sys2Proof.Machine

/-- The realisation's registers (R104). The result register holds a result or the sentinel `Port.idle`,
which is distinct from every result (R701). -/
structure Registers where
  valid  : Bool
  word   : Word
  result : Port
  deriving DecidableEq, Repr

/-- The reset values of R701. -/
def registersReset : Registers := { valid := false, word := 0x00000000, result := .idle }

/-- The gate over the registers: the held word is compared only while the valid bit is 1 (R106, R701). -/
def Registers.onNewWord (g : Registers) (w : Word) (r : DecodeResult) : Registers :=
  if g.valid = true ∧ g.word = w then g else { valid := true, word := w, result := .presents r }

/-- What the realisation's `result` port presents: neither the word register nor the result register is
read while the valid bit is 0 (R103, R701). -/
def Registers.port (g : Registers) : Port := if g.valid then g.result else .idle

/-- The registers `g` hold the cache `c`: `Idle` exactly when the valid bit is 0 (R104). -/
def Registers.holds (g : Registers) : Cache → Prop
  | .idle => g.valid = false
  | .held w r => g.valid = true ∧ g.word = w ∧ g.result = .presents r

end Sys2Proof.Machine
end

