-- ==== Sys2Proof/Machine/Reference.lean ====
section
/-! DEFINITION. The decode function of R321 as the spec writes it: from the word straight to the text,
family by family. Statements are made in terms of it; the step goes by way of `decodeWord` and `exec`,
and the two are stated to agree. -/

namespace Sys2Proof.Machine

open Extractor

/-- `Text(render(mn, ops))`. -/
def textOf (p : Params) (mn : String) (ops : List Operand) : DecodeResult := .text (render p mn ops)

/-- Entry `f` of a list of mnemonics indexed by `funct3` (R480). -/
def pick (names : List String) (f : BitVec 3) : String := names.getD f.toNat ""

/-- `LUI(w)` (R400). -/
def refLui (p : Params) (w : Word) : DecodeResult := textOf p "lui" [.reg (rd w), .u32 (immU w)]

/-- `AUIPC(w)` (R401). -/
def refAuipc (p : Params) (w : Word) : DecodeResult := textOf p "auipc" [.reg (rd w), .u32 (immU w)]

/-- `JAL(w)` (R402). -/
def refJal (p : Params) (w : Word) : DecodeResult := textOf p "jal" [.reg (rd w), .pcRel (signed (immJ w))]

/-- `JALR_FAM(w)` (R403, R404). -/
def refJalrFam (p : Params) (w : Word) : DecodeResult :=
  if funct3 w = 0b000 then textOf p "jalr" [.reg (rd w), .mem (signed (immI w)) (rs1 w)] else .noMatch w

/-- `BR(w, mn)` (R420). -/
def refBr (p : Params) (w : Word) (mn : String) : DecodeResult :=
  textOf p mn [.reg (rs1 w), .reg (rs2 w), .pcRel (signed (immB w))]

/-- `BRANCH(w)` (R420). -/
def refBranch (p : Params) (w : Word) : DecodeResult :=
  match (funct3 w).toNat with
  | 0b000 => refBr p w "beq"
  | 0b001 => refBr p w "bne"
  | 0b100 => refBr p w "blt"
  | 0b101 => refBr p w "bge"
  | 0b110 => refBr p w "bltu"
  | 0b111 => refBr p w "bgeu"
  | _ => .noMatch w

/-- `LD(w, mn)` (R440). -/
def refLd (p : Params) (w : Word) (mn : String) : DecodeResult :=
  textOf p mn [.reg (rd w), .mem (signed (immI w)) (rs1 w)]

/-- `LOAD(w)` (R440). -/
def refLoad (p : Params) (w : Word) : DecodeResult :=
  match (funct3 w).toNat with
  | 0b000 => refLd p w "lb"
  | 0b001 => refLd p w "lh"
  | 0b010 => refLd p w "lw"
  | 0b100 => refLd p w "lbu"
  | 0b101 => refLd p w "lhu"
  | _ => .noMatch w

/-- `SD(w, mn)` (R450). -/
def refSd (p : Params) (w : Word) (mn : String) : DecodeResult :=
  textOf p mn [.reg (rs2 w), .mem (signed (immS w)) (rs1 w)]

/-- `STORE(w)` (R450). -/
def refStore (p : Params) (w : Word) : DecodeResult :=
  match (funct3 w).toNat with
  | 0b000 => refSd p w "sb"
  | 0b001 => refSd p w "sh"
  | 0b010 => refSd p w "sw"
  | _ => .noMatch w

/-- `ALUI(w, mn)` (R460). -/
def refAlui (p : Params) (w : Word) (mn : String) : DecodeResult :=
  textOf p mn [.reg (rd w), .reg (rs1 w), .imm (signed (immI w))]

/-- `SHI(w, mn)` (R460). -/
def refShi (p : Params) (w : Word) (mn : String) : DecodeResult :=
  textOf p mn [.reg (rd w), .reg (rs1 w), .imm (shamt w).toNat]

/-- `OP_IMM(w)` (R460). -/
def refOpImm (p : Params) (w : Word) : DecodeResult :=
  match (funct3 w).toNat with
  | 0b000 => refAlui p w "addi"
  | 0b010 => refAlui p w "slti"
  | 0b011 => refAlui p w "sltiu"
  | 0b100 => refAlui p w "xori"
  | 0b110 => refAlui p w "ori"
  | 0b111 => refAlui p w "andi"
  | 0b001 => refShi p w "slli"
  | _ =>
    match (funct7 w).toNat with
    | 0b0000000 => refShi p w "srli"
    | 0b0100000 => refShi p w "srai"
    | _ => .noMatch w

/-- `RR(w, mn)` (R480). -/
def refRr (p : Params) (w : Word) (mn : String) : DecodeResult :=
  textOf p mn [.reg (rd w), .reg (rs1 w), .reg (rs2 w)]

/-- `OP(w)` (R480). -/
def refOp (p : Params) (w : Word) : DecodeResult :=
  match (funct7 w).toNat with
  | 0b0000000 => refRr p w (pick ["add", "sll", "slt", "sltu", "xor", "srl", "or", "and"] (funct3 w))
  | 0b0000001 => refRr p w (pick ["mul", "mulh", "mulhsu", "mulhu", "div", "divu", "rem", "remu"] (funct3 w))
  | 0b0100000 =>
    match (funct3 w).toNat with
    | 0b000 => refRr p w "sub"
    | 0b101 => refRr p w "sra"
    | _ => .noMatch w
  | _ => .noMatch w

/-- `MISC_MEM(w)` (R510). -/
def refMiscMem (p : Params) (w : Word) : DecodeResult :=
  match (funct3 w).toNat with
  | 0b000 => textOf p "fence" []
  | 0b001 => textOf p "fence.i" []
  | _ => .noMatch w

/-- `CSRR(w, mn)` (R530). -/
def refCsrr (p : Params) (w : Word) (mn : String) : DecodeResult :=
  textOf p mn [.reg (rd w), .csr (f12 w), .reg (rs1 w)]

/-- `CSRI(w, mn)` (R530). -/
def refCsri (p : Params) (w : Word) (mn : String) : DecodeResult :=
  textOf p mn [.reg (rd w), .csr (f12 w), .lit8 (zext (rs1 w))]

/-- The zero-operand privileged instructions, by `f12` (R520 to R526). -/
def refPriv (w : Word) : DecodeResult :=
  match (f12 w).toNat with
  | 0x000 => .text "ecall"
  | 0x001 => .text "ebreak"
  | 0x002 => .text "uret"
  | 0x102 => .text "sret"
  | 0x302 => .text "mret"
  | 0x105 => .text "wfi"
  | _ => .noMatch w

/-- `SYSTEM(w)` (R520). -/
def refSystem (p : Params) (w : Word) : DecodeResult :=
  match (funct3 w).toNat with
  | 0b000 => if rd w = 0 ∧ rs1 w = 0 then refPriv w else .noMatch w
  | 0b001 => refCsrr p w "csrrw"
  | 0b010 => refCsrr p w "csrrs"
  | 0b011 => refCsrr p w "csrrc"
  | 0b101 => refCsri p w "csrrwi"
  | 0b110 => refCsri p w "csrrsi"
  | 0b111 => refCsri p w "csrrci"
  | _ => .noMatch w

/-- `decode(w)`, total on all 2^32 words; it reads only the word and the parameters (R105, R321). -/
def decode (p : Params) (w : Word) : DecodeResult :=
  match (opcode w).toNat with
  | 0b0110111 => refLui p w
  | 0b0010111 => refAuipc p w
  | 0b1101111 => refJal p w
  | 0b1100111 => refJalrFam p w
  | 0b1100011 => refBranch p w
  | 0b0000011 => refLoad p w
  | 0b0100011 => refStore p w
  | 0b0010011 => refOpImm p w
  | 0b0110011 => refOp p w
  | 0b0001111 => refMiscMem p w
  | 0b1110011 => refSystem p w
  | _ => .noMatch w

end Sys2Proof.Machine
end

