-- ==== Sys2Proof/Safety.lean ====
section
/-! DEFINITION. The terms statements are made in: the cache invariant (R107), what it is for an
instruction to present its text (R106, R16), the words that are no instruction (R601), the admissible
CSR name tables (R120), and readers of the numerals the block prints (R13). -/

namespace Sys2Proof.Machine

/-- R107's invariant of the cache: in `Held(cw, cr)`, `cr == decode(cw)`. -/
def Cache.sound (p : Params) : Cache → Prop
  | .idle => True
  | .held w r => r = decode p w

/-- R107's invariant of an instance. -/
def State.Inv (s : State) : Prop := s.cache.sound s.params

/-- The gate's step of R106, its two arms written out, with `decode(w)` for the result. -/
def gateSpec (p : Params) (c : Cache) (w : Word) : Cache :=
  match c with
  | .held cw cr => if cw = w then .held cw cr else .held w (decode p w)
  | .idle => .held w (decode p w)

/-- The instruction `i` is the word `w`, and its event does this in every state: if `w` is the held word
nothing changes, else the cache holds `w` with `Text(txt)` and nothing else changes (R106). The texts
are spelt out for `COLUMN` = 9, its value for this hardware (R9). -/
def Presents (i : Instr) (w : Word) (txt : Params → String) : Prop :=
  decodeWord w = .ok i ∧
  ∀ s : State, s.params.column = 9 →
    ((∃ r, s.cache = .held w r) → exec i s = .next s) ∧
    ((∀ r, s.cache ≠ .held w r) → exec i s = .next { s with cache := .held w (.text (txt s.params)) })

/-- `Presents` for an instruction of the R layout: `col` is its mnemonic in the 9-character column. -/
def PresentsR (mk : RegNum → RegNum → RegNum → Instr) (funct7 : BitVec 7) (funct3 : BitVec 3) (col : String) : Prop :=
  ∀ rd rs1 rs2 : RegNum,
    Presents (mk rd rs1 rs2) (funct7 ++ rs2 ++ rs1 ++ funct3 ++ rd ++ 0b0110011#7)
      fun _ => col ++ "x" ++ decNat rd.toNat ++ ", x" ++ decNat rs1.toNat ++ ", x" ++ decNat rs2.toNat

/-- `Presents` for a load (or, with its opcode, `jalr`). -/
def PresentsLoad (mk : RegNum → RegNum → BitVec 12 → Instr) (opcode : BitVec 7) (funct3 : BitVec 3) (col : String) : Prop :=
  ∀ (rd rs1 : RegNum) (imm : BitVec 12),
    Presents (mk rd rs1 imm) (imm ++ rs1 ++ funct3 ++ rd ++ opcode)
      fun _ => col ++ "x" ++ decNat rd.toNat ++ ", " ++ dec imm.toInt ++ "(x" ++ decNat rs1.toNat ++ ")"

/-- `Presents` for a store; `hi` and `lo` are the immediate's bits 11:5 and 4:0. -/
def PresentsStore (mk : RegNum → RegNum → BitVec 12 → Instr) (funct3 : BitVec 3) (col : String) : Prop :=
  ∀ (rs2 rs1 : RegNum) (hi : BitVec 7) (lo : BitVec 5),
    Presents (mk rs2 rs1 (hi ++ lo)) (hi ++ rs2 ++ rs1 ++ funct3 ++ lo ++ 0b0100011#7)
      fun _ => col ++ "x" ++ decNat rs2.toNat ++ ", " ++ dec (hi ++ lo).toInt ++ "(x" ++ decNat rs1.toNat ++ ")"

/-- `Presents` for an OP-IMM instruction with an immediate. -/
def PresentsAlu (mk : RegNum → RegNum → BitVec 12 → Instr) (funct3 : BitVec 3) (col : String) : Prop :=
  ∀ (rd rs1 : RegNum) (imm : BitVec 12),
    Presents (mk rd rs1 imm) (imm ++ rs1 ++ funct3 ++ rd ++ 0b0010011#7)
      fun _ => col ++ "x" ++ decNat rd.toNat ++ ", x" ++ decNat rs1.toNat ++ ", " ++ dec imm.toInt

/-- `Presents` for an OP-IMM shift whose `funct7` bits are given. -/
def PresentsShift (mk : RegNum → RegNum → BitVec 5 → Instr) (funct7 : BitVec 7) (funct3 : BitVec 3) (col : String) : Prop :=
  ∀ (rd rs1 : RegNum) (shamt : BitVec 5),
    Presents (mk rd rs1 shamt) (funct7 ++ shamt ++ rs1 ++ funct3 ++ rd ++ 0b0010011#7)
      fun _ => col ++ "x" ++ decNat rd.toNat ++ ", x" ++ decNat rs1.toNat ++ ", " ++ decNat shamt.toNat

/-- The text of a pc-relative operand, by the offset's sign (R344). -/
def offsetText (o : Int) : String := if 0 ≤ o then ".+0x" ++ hex o.toNat 8 else ".-0x" ++ hex (-o).toNat 8

/-- `Presents` for a branch whose offset has the bits `b12`, `b11`, `mid` (10:5), `low` (4:1) and a zero. -/
def PresentsBranch (mk : RegNum → RegNum → BitVec 13 → Instr) (funct3 : BitVec 3) (col : String) : Prop :=
  ∀ (rs1 rs2 : RegNum) (b12 b11 : BitVec 1) (mid : BitVec 6) (low : BitVec 4),
    Presents (mk rs1 rs2 (b12 ++ b11 ++ mid ++ low ++ 0#1))
      (b12 ++ mid ++ rs2 ++ rs1 ++ funct3 ++ low ++ b11 ++ 0b1100011#7)
      fun _ => col ++ "x" ++ decNat rs1.toNat ++ ", x" ++ decNat rs2.toNat ++ ", "
        ++ offsetText (b12 ++ b11 ++ mid ++ low ++ 0#1).toInt

/-- `Presents` for a LUI or AUIPC whose 20 upper bits are `hi`. -/
def PresentsUpper (mk : RegNum → Word → Instr) (opcode : BitVec 7) (col : String) : Prop :=
  ∀ (rd : RegNum) (hi : BitVec 20),
    Presents (mk rd (hi ++ 0#12)) (hi ++ rd ++ opcode)
      fun _ => col ++ "x" ++ decNat rd.toNat ++ ", 0x" ++ hex (hi.toNat * 4096) 8

/-- `Presents` for a CSR instruction of the register form. -/
def PresentsCsr (mk : RegNum → CsrAddr → RegNum → Instr) (funct3 : BitVec 3) (col : String) : Prop :=
  ∀ (rd : RegNum) (csr : CsrAddr) (rs1 : RegNum),
    Presents (mk rd csr rs1) (csr ++ rs1 ++ funct3 ++ rd ++ 0b1110011#7)
      fun p => col ++ "x" ++ decNat rd.toNat ++ ", " ++ csrname p csr ++ ", x" ++ decNat rs1.toNat

/-- `Presents` for a CSR instruction of the immediate form. -/
def PresentsCsrImm (mk : RegNum → CsrAddr → BitVec 5 → Instr) (funct3 : BitVec 3) (col : String) : Prop :=
  ∀ (rd : RegNum) (csr : CsrAddr) (rs1 : BitVec 5),
    Presents (mk rd csr rs1) (csr ++ rs1 ++ funct3 ++ rd ++ 0b1110011#7)
      fun p => col ++ "x" ++ decNat rd.toNat ++ ", " ++ csrname p csr ++ ", 0x" ++ hex rs1.toNat 8

/-- R330 (another opcode) and R331 (an unlisted key within a family), on the values of the fields. -/
abbrev noMatchKeys (op rd f3 rs1 f7 f12 : Nat) : Prop :=
  op ∉ [0x37, 0x17, 0x6f, 0x67, 0x63, 0x03, 0x23, 0x13, 0x33, 0x0f, 0x73] ∨
  (op = 0x67 ∧ f3 ≠ 0) ∨
  (op = 0x63 ∧ f3 ∈ [2, 3]) ∨
  (op = 0x03 ∧ f3 ∈ [3, 6, 7]) ∨
  (op = 0x23 ∧ f3 ∈ [3, 4, 5, 6, 7]) ∨
  (op = 0x13 ∧ f3 = 5 ∧ f7 ∉ [0, 0x20]) ∨
  (op = 0x33 ∧ (f7 ∉ [0, 1, 0x20] ∨ (f7 = 0x20 ∧ f3 ∉ [0, 5]))) ∨
  (op = 0x0f ∧ f3 ∉ [0, 1]) ∨
  (op = 0x73 ∧ (f3 = 4 ∨ (f3 = 0 ∧ (rd ≠ 0 ∨ rs1 ≠ 0 ∨ f12 ∉ [0x000, 0x001, 0x002, 0x102, 0x302, 0x105]))))

/-- The words R601 says give `NoMatch`, by arithmetic on the word's value (R301). -/
abbrev noMatchWord (w : Word) : Prop :=
  noMatchKeys (w.toNat % 128) (w.toNat / 2 ^ 7 % 32) (w.toNat / 2 ^ 12 % 8) (w.toNat / 2 ^ 15 % 32)
    (w.toNat / 2 ^ 25) (w.toNat / 2 ^ 20)

/-- One of R120's generated families: index `n` of 3..31 has its name, at `base + n`, and no other
address has that name. -/
def hasFamily (p : Params) (base : Nat) (pre suf : String) : Prop :=
  ∀ n ∈ List.range' 3 29,
    csrNames p (BitVec.ofNat 12 (base + n)) = some (pre ++ decNat n ++ suf) ∧
    ∀ e ∈ p.csrNames, e.2 = pre ++ decNat n ++ suf → e.1 = BitVec.ofNat 12 (base + n)

/-- R120: what every admissible `CSR_NAMES` satisfies. Its item 4, a list the source does not give,
constrains nothing. -/
def admissible (p : Params) : Prop :=
  csrNames p 0x344 = some "mip" ∧ csrNames p 0x7ff = none ∧
  hasFamily p 0x320 "mhpmevent" "" ∧ hasFamily p 0xb00 "mhpmcounter" "" ∧ hasFamily p 0xb80 "mhpmcounter" "h" ∧
  hasFamily p 0xc00 "hpmcounter" "" ∧ hasFamily p 0xc80 "hpmcounter" "h"

/-- The value of one digit, 0-9 or a-f; `none` for any other character. -/
def digitValue (c : Char) : Option Nat :=
  if '0' ≤ c ∧ c ≤ '9' then some (c.toNat - '0'.toNat)
  else if 'a' ≤ c ∧ c ≤ 'f' then some (c.toNat - 'a'.toNat + 10)
  else none

/-- The value of a numeral in the given base, most significant digit first; `none` if a character is no
digit of the base. -/
def numeralValue (base : Nat) (cs : List Char) : Option Nat :=
  cs.foldl (fun acc c => do
    let a ← acc
    let d ← digitValue c
    if d < base then some (a * base + d) else none) (some 0)

end Sys2Proof.Machine
end

