-- ==== Sys2Proof/Certificates/Slice0/Obligations.lean ====
section
/-! DEFINITION. The statements about the block, for the provers. Each docstring cites the rule of spec/
it formalises and the spec decision or log entry it rests on. -/

open Sys2Proof Sys2Proof.Machine

/-- A word of each of the eleven families, written out from its encoding, decodes to its instruction. Words of vectors V1, V7 and V8 and the examples of R404, R421, R441, R451, R461, R469, R495 and R534, in binary, field by field as R302 lays them out. The failed level named last is log entry 13's. -/
def Obligations.DecodesHandWrittenWords : Prop :=
  decodeWord 0b00010010001101000101_00001_0110111 = .ok (.lui 1 0x12345000) ∧
  decodeWord 0b11111111111111111111_00010_0010111 = .ok (.auipc 2 0xfffff000) ∧
  decodeWord 0b0_0000000001_0_00000000_00001_1101111 = .ok (.jal 1 2) ∧
  decodeWord 0b111111110000_00101_000_00001_1100111 = .ok (.jalr 1 5 (-16)) ∧
  decodeWord 0b1_111111_00010_00001_000_1100_1_1100011 = .ok (.beq 1 2 (-8)) ∧
  decodeWord 0b111111111111_00010_000_00101_0000011 = .ok (.lb 5 2 (-1)) ∧
  decodeWord 0b1111111_00101_00010_000_11111_0100011 = .ok (.sb 5 2 (-1)) ∧
  decodeWord 0b100000000000_00110_000_00101_0010011 = .ok (.addi 5 6 (-2048)) ∧
  decodeWord 0b0100000_00100_00110_101_00101_0010011 = .ok (.srai 5 6 4) ∧
  decodeWord 0b0000001_01111_01110_100_01101_0110011 = .ok (.div 13 14 15) ∧
  decodeWord 0b0000_1111_1111_00000_000_00000_0001111 = .ok (.fence 0x1fe0 0) ∧
  decodeWord 0b0011000_00010_00000_000_00000_1110011 = .ok .mret ∧
  decodeWord 0b001100000000_01111_101_00001_1110011 = .ok (.csrrwi 1 0x300 15) ∧
  decodeWord 0xffffffff = .error .opcode

/-- Decoding the encoding of a well-formed instruction gives it back, all 59 constructors and all operands. No bit of an encoding is dropped. -/
def Obligations.DecodeOfEncodeIsTheInstruction : Prop :=
  ∀ i : Instr, i.wellFormed = true → decodeWord (encode i) = .ok i

/-- A word that decodes decodes to a well-formed instruction whose encoding is that word. The other direction: each word has one meaning. -/
def Obligations.EncodeOfDecodeIsTheWord : Prop :=
  ∀ (w : Word) (i : Instr), decodeWord w = .ok i → i.wellFormed = true ∧ encode i = w

/-- A word is an instruction of a row exactly when its compared bits have the row's values, and rows do not overlap. R323's compared bits are the masks of opcode_table.json; R322 is marked derived in the spec. -/
def Obligations.OpcodeTableRowsDecideTheInstruction : Prop :=
  (∀ (w : Word) (i : Instr), decodeWord w = .ok i → w &&& (tableRow i).mask = (tableRow i).value) ∧
  (∀ (w : Word) (j : Instr), w &&& (tableRow j).mask = (tableRow j).value →
    ∃ i, decodeWord w = .ok i ∧ tableRow i = tableRow j) ∧
  (∀ (w : Word) (i j : Instr), w &&& (tableRow i).mask = (tableRow i).value →
    w &&& (tableRow j).mask = (tableRow j).value → tableRow i = tableRow j)

/-- decode(w) is NoMatch(w) exactly for the words of R330 and R331, and a text for every other word. R601 is marked derived in the spec. -/
def Obligations.UnlistedKeysGiveNoMatch : Prop :=
  ∀ (p : Params) (w : Word),
    (noMatchWord w → decode p w = .noMatch w ∧ ∃ r, decodeWord w = .error r) ∧
    (¬ noMatchWord w → (∃ s, decode p w = .text s) ∧ ∃ i, decodeWord w = .ok i)

/-- The seven fields of the extractor are the shifts and masks of R301. R301. Its last sentences, on what f12 is used for, are OpcodeTableRowsDecideTheInstruction's and the CSR statements'. -/
def Obligations.FieldsAreShiftsAndMasks : Prop :=
  ∀ w : Word,
    zext (Extractor.opcode w) = w &&& 0x7F ∧
    zext (Extractor.rd w) = (w >>> 7) &&& 0x1F ∧
    zext (Extractor.funct3 w) = (w >>> 12) &&& 0x7 ∧
    zext (Extractor.rs1 w) = (w >>> 15) &&& 0x1F ∧
    zext (Extractor.rs2 w) = (w >>> 20) &&& 0x1F ∧
    zext (Extractor.funct7 w) = (w >>> 25) &&& 0x7F ∧
    zext (Extractor.f12 w) = (w >>> 20) &&& 0xFFF

/-- The five immediates are the sign-extended scattered bits, in their ranges, B and J even. R303 to R307; the last clause is R309, which the spec marks derived. Which instructions use which immediate is said by the statements about them. -/
def Obligations.ImmediatesAreTheScatteredBits : Prop :=
  ∀ w : Word,
    Extractor.immI w = (w.extractLsb 31 20).signExtend 32 ∧
    Extractor.immS w = (w.extractLsb 31 25 ++ w.extractLsb 11 7).signExtend 32 ∧
    Extractor.immB w =
      (w.extractLsb 31 31 ++ w.extractLsb 7 7 ++ w.extractLsb 30 25 ++ w.extractLsb 11 8 ++ 0#1).signExtend 32 ∧
    Extractor.immU w = w &&& 0xFFFFF000 ∧
    Extractor.immJ w =
      (w.extractLsb 31 31 ++ w.extractLsb 19 12 ++ w.extractLsb 20 20 ++ w.extractLsb 30 21 ++ 0#1).signExtend 32 ∧
    (-2048 ≤ signed (Extractor.immI w) ∧ signed (Extractor.immI w) ≤ 2047) ∧
    (-2048 ≤ signed (Extractor.immS w) ∧ signed (Extractor.immS w) ≤ 2047) ∧
    (-4096 ≤ signed (Extractor.immB w) ∧ signed (Extractor.immB w) ≤ 4094 ∧ 2 ∣ signed (Extractor.immB w)) ∧
    (-1048576 ≤ signed (Extractor.immJ w) ∧ signed (Extractor.immJ w) ≤ 1048574 ∧ 2 ∣ signed (Extractor.immJ w)) ∧
    ((Extractor.rawI w).msb = w.getLsbD 31 ∧ (Extractor.rawS w).msb = w.getLsbD 31 ∧
      (Extractor.rawB w).msb = w.getLsbD 31 ∧ (Extractor.rawJ w).msb = w.getLsbD 31)

/-- With w[31] = 0 an immediate is its raw value; with w[31] = 1 the upper bits are forced to 1. R308, as corrected by conflict C1. -/
def Obligations.SignExtensionFollowsBitThirtyOne : Prop :=
  ∀ w : Word,
    (w.getLsbD 31 = false → Extractor.immI w = zext (Extractor.rawI w) ∧ Extractor.immS w = zext (Extractor.rawS w) ∧
      Extractor.immB w = zext (Extractor.rawB w) ∧ Extractor.immJ w = zext (Extractor.rawJ w)) ∧
    (w.getLsbD 31 = true → Extractor.immI w = (zext (Extractor.rawI w) ||| 0xFFFFF000) ∧
      Extractor.immS w = (zext (Extractor.rawS w) ||| 0xFFFFF000) ∧
      Extractor.immB w = (zext (Extractor.rawB w) ||| 0xFFFFE000) ∧
      Extractor.immJ w = (zext (Extractor.rawJ w) ||| 0xFFE00000))

/-- The magnitude of a branch or jump offset is at most 2^20 and is read back from its eight digits. R313 is marked derived in the spec. -/
def Obligations.OffsetsFitEightHexDigits : Prop :=
  ∀ w : Word,
    (signed (Extractor.immB w)).natAbs ≤ 0x100000 ∧ (signed (Extractor.immJ w)).natAbs ≤ 0x100000 ∧
    numeralValue 16 (hex (signed (Extractor.immB w)).natAbs 8).toList = some (signed (Extractor.immB w)).natAbs ∧
    numeralValue 16 (hex (signed (Extractor.immJ w)).natAbs 8).toList = some (signed (Extractor.immJ w)).natAbs

/-- The host-side assembly of four bytes has the value R201 writes out. The assembly is the host's choice (D17), not part of the block. -/
def Obligations.ByteAssemblyIsLittleEndian : Prop :=
  ∀ (b0 b1 b2 b3 : Byte) (rest : List Byte),
    wordOfBytes b0 b1 b2 b3 = (zext b0 ||| zext b1 <<< 8 ||| zext b2 <<< 16 ||| zext b3 <<< 24) ∧
    ∀ i, decodeWord (wordOfBytes b0 b1 b2 b3) = .ok i → decodeBytes (b0 :: b1 :: b2 :: b3 :: rest) = .ok (i, rest)

/-- When the next event's word decodes to i, the step is exec i after the event is taken off. The per-instruction statements reach a run through this one. The event list is the model's (log entry 1). -/
def Obligations.StepRunsTheDecodedInstruction : Prop :=
  ∀ (s : State) (w : Word) (rest : List Word) (i : Instr), s.events = w :: rest → decodeWord w = .ok i →
    step s = exec i { s with events := rest } ∧ i.wellFormed = true

/-- MODEL'S CHOICE (log entry 1): with no event presented a step changes nothing. The model's choice: log entry 1. -/
def Obligations.StepWithoutEventChangesNothing : Prop :=
  ∀ s : State, s.events = [] → step s = .next s

/-- Every event's step is the gate's step of R106 with decode(w), for every state and every word. R106. The event list is log entry 1's. It says that the instruction-by-instruction machine computes the spec's own pseudo-code of decode. -/
def Obligations.GateTakesEventWithItsDecode : Prop :=
  ∀ (s : State) (w : Word) (rest : List Word), s.events = w :: rest →
    step s = .next { cache := gateSpec s.params s.cache w, events := rest, params := s.params } ∧
    ((∃ cr, s.cache = .held w cr) → (gateSpec s.params s.cache w).port = s.port) ∧
    ((∀ cr, s.cache ≠ .held w cr) → (gateSpec s.params s.cache w).port = .presents (decode s.params w))

/-- The cache invariant cr == decode(cw) is kept by every step and by every host event. R107 is marked derived in the spec. -/
def Obligations.HeldResultIsDecodeOfHeldWord : Prop :=
  (∀ s t : State, s.Inv → step s = .next t → t.Inv) ∧ (∀ (s : State) (w : Word), s.Inv → (s.present w).Inv)

/-- The state after reset meets the cache invariant. The cache is Idle. -/
def Obligations.ResetMeetsCacheInvariant : Prop :=
  State.reset.Inv ∧ ∀ (p : Params) (n : Nat), ∀ s ∈ instancesReset p n, s.Inv

/-- After an event onNewWord(w) the result port presents decode(w). The second half of R107. -/
def Obligations.PortPresentsDecodeAfterEvent : Prop :=
  ∀ (s : State) (w : Word) (rest : List Word), s.Inv → s.events = w :: rest →
    ∃ t, step s = .next t ∧ t.port = .presents (decode s.params w) ∧ t.cache = .held w (decode s.params w)

/-- Every step completes, and every word decodes to exactly one text or one NoMatch. R602 (the resolver's clause is R122's). The event list is the model's, and so is the last clause where no event is waiting (log entry 1, DESIGN CHOICE): R602 says nothing of such a state. -/
def Obligations.EveryWordGetsExactlyOneResult : Prop :=
  (∀ (p : Params) (w : Word), ((∃ s, decode p w = .text s) ∧ ¬ decode p w = .noMatch w) ∨
    (decode p w = .noMatch w ∧ ¬ ∃ s, decode p w = .text s)) ∧
  (∀ (p : Params) (a : CsrAddr), (∃ s, csrNames p a = some s ∧ csrname p a = s) ∨
    (csrNames p a = none ∧ csrname p a = "$0x" ++ hex a.toNat 3)) ∧
  (∀ (s : State) (w : Word) (rest : List Word), s.events = w :: rest →
    ∃ t r, step s = .next t ∧ t.port = .presents r) ∧
  (∀ s : State, ∃ t, step s = .next t)

/-- After any run of events the port presents decode of the last word, whatever came before. R705 is marked derived in the spec. -/
def Obligations.RunPresentsTheLastWord : Prop :=
  ∀ (s : State) (ws : List Word) (w : Word), s.Inv → s.events = ws ++ [w] →
    Host.Core.run Sys2Proof.core (ws.length + 1) s =
      .next { cache := .held w (decode s.params w), events := [], params := s.params }

/-- A word presented while events wait is taken after them: presenting and stepping commute. R102, in the model's event list (log entry 1). -/
def Obligations.EventsAreTakenInPresentedOrder : Prop :=
  ∀ (s t : State) (w : Word), s.events ≠ [] → step s = .next t → step (s.present w) = .next (t.present w)

/-- The same word presented again is taken and changes neither the cache nor the port. "the core must tolerate being invoked repeatedly with an unchanged value" (R102); decoding is idempotent (R203). -/
def Obligations.RepeatedWordIsHeld : Prop :=
  ∀ (s : State) (w : Word) (rest : List Word), s.events = w :: w :: rest →
    ∃ t, step s = .next t ∧ t.events = w :: rest ∧ step t = .next { t with events := rest }

/-- After reset the first event decodes for every word, the word 0 included. R702 (conflict C3). The event list is log entry 1's. -/
def Obligations.FirstEventAlwaysDecodes : Prop :=
  ∀ (w : Word) (rest : List Word),
    step { State.reset with events := w :: rest } =
      .next { State.reset with cache := .held w (decode State.reset.params w), events := rest } ∧
    step { State.reset with events := 0 :: rest } =
      .next { State.reset with cache := .held 0 (.noMatch 0), events := rest }

/-- What reset leaves: the cache and port Idle, the realisation's registers at their values, the CSR table at its constant. R701. The constant table is R121's default (log entry 3). -/
def Obligations.ResetValuesAreTheSpecs : Prop :=
  State.reset.cache = .idle ∧ State.reset.port = .idle ∧
  registersReset.valid = false ∧ registersReset.word = 0x00000000 ∧
  (∀ r : DecodeResult, registersReset.result ≠ .presents r) ∧
  registersReset.holds State.reset.cache ∧ registersReset.port = .idle ∧
  State.reset.params.csrNames = defaultCsrNames

/-- No step, instruction or host event writes the CSR name table (or any parameter). R123. -/
def Obligations.ParametersAreNeverWritten : Prop :=
  (∀ s t : State, step s = .next t → t.params = s.params ∧ ∀ a, csrname t.params a = csrname s.params a) ∧
  (∀ (i : Instr) (s t : State), exec i s = .next t → t.params = s.params) ∧
  (∀ (s : State) (w : Word), (s.present w).params = s.params)

/-- Frame and completion of all 59: exec answers a next state in which at most the cache entry changed. The frame of every instruction: the block has no other state (R108). -/
def Obligations.EveryInstructionChangesOnlyTheCache : Prop :=
  ∀ i : Instr, ∃ txt : Params → String, ∀ s : State, ∃ t, exec i s = .next t ∧
    t.events = s.events ∧ t.params = s.params ∧
    ((∃ r, s.cache = .held (encode i) r) → t.cache = s.cache) ∧
    ((∀ r, s.cache ≠ .held (encode i) r) → t.cache = .held (encode i) (.text (txt s.params)))

/-- A word that is no instruction is answered NoMatch with the word, a normal step and nothing else recorded. R600: "it must never abort processing". -/
def Obligations.UnrecognisedWordIsHeldAsNoMatch : Prop :=
  ∀ (s : State) (w : Word) (rest : List Word), s.events = w :: rest → noMatchWord w →
    ((∃ r, s.cache = .held w r) → step s = .next { s with events := rest }) ∧
    ((∀ r, s.cache ≠ .held w r) → step s = .next { s with cache := .held w (.noMatch w), events := rest })

/-- An event or a step of one instance leaves every other instance as it was, and the shared table too. R608. The list of instances is log entry 14's. -/
def Obligations.InstancesDoNotCommunicate : Prop :=
  (∀ (p : Params) (n : Nat), sharesTable p (instancesReset p n) ∧ (instancesReset p n).length = n ∧
    ∀ s ∈ instancesReset p n, s.cache = .idle) ∧
  ∀ (p : Params) (insts : Instances) (k : Nat) (w : Word), sharesTable p insts →
    (sharesTable p (presentTo insts k w) ∧ (presentTo insts k w).length = insts.length ∧
      ∀ j, j ≠ k → (presentTo insts k w)[j]? = insts[j]?) ∧
    ∃ after, stepInstance insts k = .next after ∧ sharesTable p after ∧ after.length = insts.length ∧
      (∀ j, j ≠ k → after[j]? = insts[j]?) ∧
      ∀ s t, insts[k]? = some s → step s = .next t → after[k]? = some t

/-- The valid bit, word and result registers of a realisation refine the cache through every event. R104: "the valid bit is 0 exactly in `Idle`". -/
def Obligations.RegistersRefineTheCacheGate : Prop :=
  registersReset.holds .idle ∧
  (∀ (g : Registers) (c : Cache) (w : Word) (r : DecodeResult), g.holds c →
    (g.onNewWord w r).holds (c.onNewWord w r) ∧ g.port = c.port ∧ g.valid = c.valid) ∧
  (∀ (g h : Registers) (w : Word) (r : DecodeResult), g.valid = false → h.valid = false →
    g.onNewWord w r = h.onNewWord w r ∧ g.port = h.port)

/-- csrname gives the table's name, else $0x and three lowercase hexadecimal digits of the address. R122. -/
def Obligations.CsrNameResolution : Prop :=
  (∀ (p : Params) (a : CsrAddr) (s : String), csrNames p a = some s → csrname p a = s) ∧
  (∀ (p : Params) (a : CsrAddr), csrNames p a = none →
    ∃ ds : List Char, csrname p a = "$0x" ++ String.ofList ds ∧ ds.length = 3 ∧ numeralValue 16 ds = some a.toNat) ∧
  (∀ p : Params, csrNames p 0x344 = some "mip" → csrname p 0x344 = "mip") ∧
  (∀ p : Params, csrNames p 0x7ff = none → csrname p 0x7ff = "$0x7ff")

/-- The default CSR table meets R120: mip at 0x344, nothing at 0x7ff, the five families once each. R120. The addresses of the families and the fixed names rest on R121, the spec's general knowledge (log entry 3). -/
def Obligations.DefaultCsrTableIsAdmissible : Prop :=
  admissible defaultParams

/-- The default CSR table has R121's 58 fixed names at their addresses, 20 PMP and 145 generated entries, 223 in all, no address twice. R121, the spec's default from general knowledge (log entry 3). -/
def Obligations.DefaultCsrTableHas223Entries : Prop :=
  defaultCsrNames.length = 223 ∧ csrFixed.length = 58 ∧ csrPmp.length = 20 ∧ csrGenerated.length = 145 ∧
  (defaultCsrNames.map Prod.fst).Nodup ∧
  (∀ n ∈ List.range 4, csrname defaultParams (BitVec.ofNat 12 (0x3a0 + n)) = "pmpcfg" ++ decNat n) ∧
  (∀ n ∈ List.range 16, csrname defaultParams (BitVec.ofNat 12 (0x3b0 + n)) = "pmpaddr" ++ decNat n) ∧
  (∀ e ∈ ([(0x000, "ustatus"), (0x001, "fflags"), (0x002, "frm"), (0x003, "fcsr"),
      (0x004, "uie"), (0x005, "utvec"), (0x040, "uscratch"), (0x041, "uepc"),
      (0x042, "ucause"), (0x043, "utval"), (0x044, "uip"), (0x100, "sstatus")] ++
    [(0x102, "sedeleg"), (0x103, "sideleg"), (0x104, "sie"), (0x105, "stvec"),
      (0x106, "scounteren"), (0x140, "sscratch"), (0x141, "sepc"), (0x142, "scause"),
      (0x143, "stval"), (0x144, "sip"), (0x180, "satp"), (0x300, "mstatus")] ++
    [(0x301, "misa"), (0x302, "medeleg"), (0x303, "mideleg"), (0x304, "mie"),
      (0x305, "mtvec"), (0x306, "mcounteren"), (0x320, "mcountinhibit"), (0x340, "mscratch"),
      (0x341, "mepc"), (0x342, "mcause"), (0x343, "mtval"), (0x344, "mip")] ++
    [(0x7a0, "tselect"), (0x7a1, "tdata1"), (0x7a2, "tdata2"), (0x7a3, "tdata3"),
      (0x7b0, "dcsr"), (0x7b1, "dpc"), (0x7b2, "dscratch0"), (0x7b3, "dscratch1"),
      (0xb00, "mcycle"), (0xb02, "minstret"), (0xb80, "mcycleh"), (0xb82, "minstreth")] ++
    [(0xc00, "cycle"), (0xc01, "time"), (0xc02, "instret"), (0xc80, "cycleh"),
      (0xc81, "timeh"), (0xc82, "instreth"), (0xf11, "mvendorid"), (0xf12, "marchid"),
      (0xf13, "mimpid"), (0xf14, "mhartid")] : List (CsrAddr × String)),
    csrNames defaultParams e.1 = some e.2) ∧
  (∀ e ∈ defaultCsrNames, csrname defaultParams e.1 = e.2) ∧
  ∀ a : CsrAddr, (∀ e ∈ defaultCsrNames, e.1 ≠ a) → csrNames defaultParams a = none

/-- dec(n) is the decimal numeral of n: it reads back as n, has no leading zero, and a minus sign exactly when n < 0. R13 (the dec line; decision D3). -/
def Obligations.DecimalSpellingReadsBack : Prop :=
  (∀ n : Nat, numeralValue 10 (decNat n).toList = some n ∧ ((decNat n).toList.head? = some '0' ↔ n = 0)) ∧
  decNat 0 = "0" ∧
  (∀ n : Int, 0 ≤ n → dec n = decNat n.toNat) ∧ (∀ n : Int, n < 0 → dec n = "-" ++ decNat (-n).toNat)

/-- hex(v, k) is exactly k lowercase hexadecimal digits that read back as v. R13 (the hex line; decision D5). -/
def Obligations.HexSpellingReadsBack : Prop :=
  ∀ v k : Nat, v < 16 ^ k → (hex v k).length = k ∧ numeralValue 16 (hex v k).toList = some v ∧
    ∀ c ∈ (hex v k).toList, ('0' ≤ c ∧ c ≤ '9') ∨ ('a' ≤ c ∧ c ≤ 'f')

/-- Operands begin at column 9 for every mnemonic; without operands the mnemonic stands alone. R340 (decision D15, conflict C4). -/
def Obligations.MnemonicColumnIsNineWide : Prop :=
  ∀ (p : Params) (i : Instr), p.column = 9 →
    (tableRow i).mnemonic.length ≤ 7 ∧ render p (tableRow i).mnemonic [] = (tableRow i).mnemonic ∧
    ∀ (o : Operand) (os : List Operand), ∃ blanks : String,
      2 ≤ blanks.length ∧ (∀ c ∈ blanks.toList, c = ' ') ∧ ((tableRow i).mnemonic ++ blanks).length = 9 ∧
      render p (tableRow i).mnemonic (o :: os) =
        (tableRow i).mnemonic ++ blanks ++ (os.map (optext p)).foldl (fun acc x => acc ++ ", " ++ x) (optext p o)

/-- A pc-relative operand prints .+0x or .-0x by the offset's sign and eight digits of its magnitude. R344 (decision D6 for zero). -/
def Obligations.OffsetTextHasItsSign : Prop :=
  ∀ (p : Params) (o : Int), o.natAbs < 16 ^ 8 →
    (∃ ds : List Char, optext p (.pcRel o) = (if 0 ≤ o then ".+0x" else ".-0x") ++ String.ofList ds ∧
      ds.length = 8 ∧ numeralValue 16 ds = some o.natAbs) ∧
    optext p (.pcRel 0) = ".+0x00000000"

/-- Register, immediate, U32, memory, CSR and literal operands print as R341 to R347 say. R341 to R347 (decisions D3, D4, D8, D23). -/
def Obligations.OperandTextsOfTheOtherKinds : Prop :=
  ∀ p : Params,
    (∀ n : RegNum, optext p (.reg n) = "x" ++ decNat n.toNat) ∧ (∀ i : Int, optext p (.imm i) = dec i) ∧
    (∀ v : Word, optext p (.u32 v) = "0x" ++ hex v.toNat 8) ∧
    (∀ (i : Int) (n : RegNum), optext p (.mem i n) = dec i ++ "(x" ++ decNat n.toNat ++ ")") ∧
    (∀ a : CsrAddr, optext p (.csr a) = csrname p a) ∧ (∀ v : Word, optext p (.lit8 v) = "0x" ++ hex v.toNat 8) ∧
    optext p (.u32 0x12345000) = "0x12345000" ∧ optext p (.mem (-4) 2) = "-4(x2)" ∧ optext p (.lit8 31) = "0x0000001f"

/-- The source's own vectors: NOP, ebreak, ret, all ones, mret, and the two CSR names. 95_test_vectors.md L1. -/
def Obligations.SourceVectorsHold : Prop :=
  decode defaultParams 0x00000013 = .text "addi     x0, x0, 0" ∧ decode defaultParams 0x00100073 = .text "ebreak" ∧
  decode defaultParams 0x00008067 = .text "jalr     x0, 0(x1)" ∧ decode defaultParams 0xFFFFFFFF = .noMatch 0xffffffff ∧
  decode defaultParams 0x30200073 = .text "mret" ∧
  csrname defaultParams 0x344 = "mip" ∧ csrname defaultParams 0x7ff = "$0x7ff"

/-- lui and auipc: the word they are, and "rd, 0x" with the whole 32-bit immediate in hex. R400, R401 (decision D4). -/
def Obligations.UpperImmediatesPresentTheirTexts : Prop :=
  PresentsUpper .lui 0b0110111 "lui      " ∧ PresentsUpper .auipc 0b0010111 "auipc    "

/-- jal: the word it is, its link register and its signed offset. R402 (decision D6 for zero). -/
def Obligations.JumpPresentsItsOffset : Prop :=
  ∀ (rd : RegNum) (b20 b11 : BitVec 1) (mid : BitVec 8) (low : BitVec 10),
    Presents (.jal rd (b20 ++ mid ++ b11 ++ low ++ 0#1)) (b20 ++ low ++ b11 ++ mid ++ rd ++ 0b1101111#7)
      fun _ => "jal      x" ++ decNat rd.toNat ++ ", " ++ offsetText (b20 ++ mid ++ b11 ++ low ++ 0#1).toInt

/-- jalr: the word it is, and "rd, imm(rs1)". R404 (decision D3). -/
def Obligations.IndirectJumpPresentsItsText : Prop :=
  PresentsLoad .jalr 0b1100111 0b000 "jalr     "

/-- The six branches: the words they are, and "rs1, rs2, offset". R421 to R426 (decisions D6, D12). -/
def Obligations.BranchesPresentTheirTexts : Prop :=
  PresentsBranch .beq 0b000 "beq      " ∧ PresentsBranch .bne 0b001 "bne      " ∧
  PresentsBranch .blt 0b100 "blt      " ∧ PresentsBranch .bge 0b101 "bge      " ∧
  PresentsBranch .bltu 0b110 "bltu     " ∧ PresentsBranch .bgeu 0b111 "bgeu     "

/-- The five loads: the words they are, and "rd, imm(rs1)". R441 to R445 (decisions D3, D12). -/
def Obligations.LoadsPresentTheirTexts : Prop :=
  PresentsLoad .lb 0b0000011 0b000 "lb       " ∧ PresentsLoad .lh 0b0000011 0b001 "lh       " ∧
  PresentsLoad .lw 0b0000011 0b010 "lw       " ∧ PresentsLoad .lbu 0b0000011 0b100 "lbu      " ∧
  PresentsLoad .lhu 0b0000011 0b101 "lhu      "

/-- The three stores: the words they are, and "rs2, imm(rs1)". R451 to R453 (decisions D3, D12). -/
def Obligations.StoresPresentTheirTexts : Prop :=
  PresentsStore .sb 0b000 "sb       " ∧ PresentsStore .sh 0b001 "sh       " ∧ PresentsStore .sw 0b010 "sw       "

/-- addi, slti, sltiu, xori, ori, andi: the words they are, and "rd, rs1, imm" in signed decimal. R461 to R466 (decisions D3, D11). -/
def Obligations.ImmediateOperationsPresentTheirTexts : Prop :=
  PresentsAlu .addi 0b000 "addi     " ∧ PresentsAlu .slti 0b010 "slti     " ∧ PresentsAlu .sltiu 0b011 "sltiu    " ∧
  PresentsAlu .xori 0b100 "xori     " ∧ PresentsAlu .ori 0b110 "ori      " ∧ PresentsAlu .andi 0b111 "andi     "

/-- slli (any funct7), srli, srai: the words they are, and "rd, rs1, shamt". R467 to R469 (decisions D11, D13). -/
def Obligations.ShiftsPresentTheirTexts : Prop :=
  (∀ funct7 : BitVec 7, PresentsShift (.slli funct7) funct7 0b001 "slli     ") ∧
  PresentsShift .srli 0b0000000 0b101 "srli     " ∧ PresentsShift .srai 0b0100000 0b101 "srai     "

/-- The ten OP instructions: the words they are, and "rd, rs1, rs2". R481 to R490 (decision D12). -/
def Obligations.RegisterOperationsPresentTheirTexts : Prop :=
  PresentsR .add 0b0000000 0b000 "add      " ∧ PresentsR .sub 0b0100000 0b000 "sub      " ∧
  PresentsR .sll 0b0000000 0b001 "sll      " ∧ PresentsR .slt 0b0000000 0b010 "slt      " ∧
  PresentsR .sltu 0b0000000 0b011 "sltu     " ∧ PresentsR .xor 0b0000000 0b100 "xor      " ∧
  PresentsR .srl 0b0000000 0b101 "srl      " ∧ PresentsR .sra 0b0100000 0b101 "sra      " ∧
  PresentsR .or 0b0000000 0b110 "or       " ∧ PresentsR .and 0b0000000 0b111 "and      "

/-- The eight M instructions: the words they are, and "rd, rs1, rs2". R491 to R498 (decision D12). -/
def Obligations.MultiplyDividePresentTheirTexts : Prop :=
  PresentsR .mul 0b0000001 0b000 "mul      " ∧ PresentsR .mulh 0b0000001 0b001 "mulh     " ∧
  PresentsR .mulhsu 0b0000001 0b010 "mulhsu   " ∧ PresentsR .mulhu 0b0000001 0b011 "mulhu    " ∧
  PresentsR .div 0b0000001 0b100 "div      " ∧ PresentsR .divu 0b0000001 0b101 "divu     " ∧
  PresentsR .rem 0b0000001 0b110 "rem      " ∧ PresentsR .remu 0b0000001 0b111 "remu     "

/-- fence and fence.i: the bare mnemonic whatever the uncompared bits. R511, R512 (decisions D14, D15). -/
def Obligations.FencesPresentBareMnemonics : Prop :=
  (∀ (hi : BitVec 17) (lo : BitVec 5), Presents (.fence hi lo) (hi ++ 0b000#3 ++ lo ++ 0b0001111#7) fun _ => "fence") ∧
  (∀ (hi : BitVec 17) (lo : BitVec 5), Presents (.fenceI hi lo) (hi ++ 0b001#3 ++ lo ++ 0b0001111#7) fun _ => "fence.i")

/-- ecall, ebreak, uret, sret, mret, wfi: their one word each, and the bare mnemonic. R521 to R526 (decision D15). -/
def Obligations.PrivilegedInstructionsPresentTheirNames : Prop :=
  Presents .ecall 0x00000073 (fun _ => "ecall") ∧ Presents .ebreak 0x00100073 (fun _ => "ebreak") ∧
  Presents .uret 0x00200073 (fun _ => "uret") ∧ Presents .sret 0x10200073 (fun _ => "sret") ∧
  Presents .mret 0x30200073 (fun _ => "mret") ∧ Presents .wfi 0x10500073 (fun _ => "wfi") ∧
  ∀ w : Word, (decodeWord w = .ok .ecall → w = 0x00000073) ∧ (decodeWord w = .ok .ebreak → w = 0x00100073) ∧
    (decodeWord w = .ok .uret → w = 0x00200073) ∧ (decodeWord w = .ok .sret → w = 0x10200073) ∧
    (decodeWord w = .ok .mret → w = 0x30200073) ∧ (decodeWord w = .ok .wfi → w = 0x10500073)

/-- csrrw, csrrs, csrrc: the words they are, and "rd, csr, rs1" with the CSR resolved unsigned. R531 to R533 (decisions D7, D9, D12; the last two words rest on log entry 3). -/
def Obligations.CsrInstructionsPresentTheirTexts : Prop :=
  PresentsCsr .csrrw 0b001 "csrrw    " ∧ PresentsCsr .csrrs 0b010 "csrrs    " ∧ PresentsCsr .csrrc 0b011 "csrrc    " ∧
  decode defaultParams 0x7ff01073 = .text "csrrw    x0, $0x7ff, x0" ∧
  decode defaultParams 0x80001073 = .text "csrrw    x0, $0x800, x0"

/-- csrrwi, csrrsi, csrrci: the words they are, and the rs1 field itself as an 8-digit literal. R312 (the display quirk), R534 to R536 (decisions D7, D8, D12; the last word rests on log entry 3). -/
def Obligations.CsrImmediatesPrintTheRs1Field : Prop :=
  PresentsCsrImm .csrrwi 0b101 "csrrwi   " ∧ PresentsCsrImm .csrrsi 0b110 "csrrsi   " ∧ PresentsCsrImm .csrrci 0b111 "csrrci   " ∧
  decode defaultParams 0x34405573 = .text "csrrwi   x10, mip, 0x00000000" ∧
  decode defaultParams 0xfff0f073 = .text "csrrci   x0, $0xfff, 0x00000001"

/-- No pseudo-instruction is printed: R350's words print as the base instructions they spell. R350, marked derived in the spec; the CSR names rest on log entry 3. -/
def Obligations.PseudoInstructionsPrintAsBase : Prop :=
  decode defaultParams 0x00000013 = .text "addi     x0, x0, 0" ∧
  decode defaultParams 0x00030293 = .text "addi     x5, x6, 0" ∧
  decode defaultParams 0xfff34293 = .text "xori     x5, x6, -1" ∧
  decode defaultParams 0x406002b3 = .text "sub      x5, x0, x6" ∧
  decode defaultParams 0x00133293 = .text "sltiu    x5, x6, 1" ∧
  decode defaultParams 0x006032b3 = .text "sltu     x5, x0, x6" ∧
  decode defaultParams 0x000322b3 = .text "slt      x5, x6, x0" ∧
  decode defaultParams 0x006022b3 = .text "slt      x5, x0, x6" ∧
  decode defaultParams 0xffb00293 = .text "addi     x5, x0, -5" ∧
  decode defaultParams 0x00028463 = .text "beq      x5, x0, .+0x00000008" ∧
  decode defaultParams 0xfe029ce3 = .text "bne      x5, x0, .-0x00000008" ∧
  decode defaultParams 0x00505863 = .text "bge      x0, x5, .+0x00000010" ∧
  decode defaultParams 0x0002d863 = .text "bge      x5, x0, .+0x00000010" ∧
  decode defaultParams 0x0002c863 = .text "blt      x5, x0, .+0x00000010" ∧
  decode defaultParams 0x00504863 = .text "blt      x0, x5, .+0x00000010" ∧
  decode defaultParams 0x00534863 = .text "blt      x6, x5, .+0x00000010" ∧
  decode defaultParams 0x00535863 = .text "bge      x6, x5, .+0x00000010" ∧
  decode defaultParams 0x00536863 = .text "bltu     x6, x5, .+0x00000010" ∧
  decode defaultParams 0x00537863 = .text "bgeu     x6, x5, .+0x00000010" ∧
  decode defaultParams 0x0100006f = .text "jal      x0, .+0x00000010" ∧
  decode defaultParams 0x010000ef = .text "jal      x1, .+0x00000010" ∧
  decode defaultParams 0x00028067 = .text "jalr     x0, 0(x5)" ∧
  decode defaultParams 0x000280e7 = .text "jalr     x1, 0(x5)" ∧
  decode defaultParams 0x00008067 = .text "jalr     x0, 0(x1)" ∧
  decode defaultParams 0x300022f3 = .text "csrrs    x5, mstatus, x0" ∧
  decode defaultParams 0x30529073 = .text "csrrw    x0, mtvec, x5" ∧
  decode defaultParams 0x3042a073 = .text "csrrs    x0, mie, x5" ∧
  decode defaultParams 0x3042b073 = .text "csrrc    x0, mie, x5" ∧
  decode defaultParams 0x30045073 = .text "csrrwi   x0, mstatus, 0x00000008" ∧
  decode defaultParams 0x30046073 = .text "csrrsi   x0, mstatus, 0x00000008" ∧
  decode defaultParams 0x30047073 = .text "csrrci   x0, mstatus, 0x00000008" ∧
  decode defaultParams 0xc00022f3 = .text "csrrs    x5, cycle, x0" ∧
  decode defaultParams 0xc01022f3 = .text "csrrs    x5, time, x0" ∧
  decode defaultParams 0xc02022f3 = .text "csrrs    x5, instret, x0" ∧
  decode defaultParams 0x0ff0000f = .text "fence"
end

