-- ==== Sys2Proof/Laws/State.lean ====
section
/-! SUPPORT. One lemma per field per update of the state, and what a state is made of. -/

namespace Sys2Proof.Machine

@[simp] theorem State.withCache_cache (s : State) (c : Cache) : (s.withCache c).cache = c := rfl
@[simp] theorem State.withCache_events (s : State) (c : Cache) : (s.withCache c).events = s.events := rfl
@[simp] theorem State.withCache_params (s : State) (c : Cache) : (s.withCache c).params = s.params := rfl

@[simp] theorem State.withEvents_cache (s : State) (es : List Word) : (s.withEvents es).cache = s.cache := rfl
@[simp] theorem State.withEvents_events (s : State) (es : List Word) : (s.withEvents es).events = es := rfl
@[simp] theorem State.withEvents_params (s : State) (es : List Word) : (s.withEvents es).params = s.params := rfl

@[simp] theorem State.withCache_withCache (s : State) (c d : Cache) : (s.withCache c).withCache d = s.withCache d := rfl
@[simp] theorem State.withEvents_withEvents (s : State) (a b : List Word) :
    (s.withEvents a).withEvents b = s.withEvents b := rfl
@[simp] theorem State.withCache_self (s : State) : s.withCache s.cache = s := rfl
@[simp] theorem State.withEvents_self (s : State) : s.withEvents s.events = s := rfl

/-- Writes of the two fields commute; the canonical order has the cache outside. -/
@[simp] theorem State.withCache_withEvents (s : State) (c : Cache) (es : List Word) :
    (s.withCache c).withEvents es = (s.withEvents es).withCache c := rfl

@[simp] theorem State.present_cache (s : State) (w : Word) : (s.present w).cache = s.cache := rfl
@[simp] theorem State.present_events (s : State) (w : Word) : (s.present w).events = s.events ++ [w] := rfl
@[simp] theorem State.present_params (s : State) (w : Word) : (s.present w).params = s.params := rfl

@[simp] theorem State.reset_cache : State.reset.cache = .idle := rfl
@[simp] theorem State.reset_events : State.reset.events = [] := rfl
@[simp] theorem State.reset_params : State.reset.params = defaultParams := rfl

end Sys2Proof.Machine
end

