-- ==== Sys2Proof/Laws/Ops.lean ====
section
/-! SUPPORT. What each shared operation can do, said once. -/

namespace Sys2Proof.Machine

@[simp] theorem Cache.onNewWord_idle (w : Word) (r : DecodeResult) : Cache.idle.onNewWord w r = .held w r := rfl

@[simp] theorem Cache.onNewWord_same (w : Word) (cr r : DecodeResult) :
    (Cache.held w cr).onNewWord w r = .held w cr := by
  simp [Cache.onNewWord]

theorem Cache.onNewWord_other {cw w : Word} (h : cw ≠ w) (cr r : DecodeResult) :
    (Cache.held cw cr).onNewWord w r = .held w r := by
  simp [Cache.onNewWord, h]

/-- The gate either keeps an entry for `w` or puts the new one in its place. -/
theorem Cache.onNewWord_cases (c : Cache) (w : Word) (r : DecodeResult) :
    (∃ cr, c = .held w cr ∧ c.onNewWord w r = c) ∨ ((∀ cr, c ≠ .held w cr) ∧ c.onNewWord w r = .held w r) := by
  cases c with
  | idle => exact .inr ⟨nofun, rfl⟩
  | held cw cr =>
    by_cases h : cw = w
    · subst h
      exact .inl ⟨cr, rfl, onNewWord_same cw cr r⟩
    · refine .inr ⟨fun cr' h' => h ?_, onNewWord_other h cr r⟩
      injection h'

/-- After the gate's step the cache holds an entry for `w`. -/
theorem Cache.onNewWord_holds (c : Cache) (w : Word) (r : DecodeResult) : ∃ r', c.onNewWord w r = .held w r' := by
  obtain ⟨cr, rfl, h⟩ | ⟨-, h⟩ := Cache.onNewWord_cases c w r
  · exact ⟨cr, h⟩
  · exact ⟨r, h⟩

/-- A second event of the same word changes nothing, whatever result comes with it. -/
@[simp] theorem Cache.onNewWord_onNewWord_same (c : Cache) (w : Word) (r r' : DecodeResult) :
    (c.onNewWord w r).onNewWord w r' = c.onNewWord w r := by
  obtain ⟨x, h⟩ := Cache.onNewWord_holds c w r
  rw [h, Cache.onNewWord_same]

@[simp] theorem State.onNewWord_cache (s : State) (w : Word) (r : DecodeResult) :
    (s.onNewWord w r).cache = s.cache.onNewWord w r := rfl
@[simp] theorem State.onNewWord_events (s : State) (w : Word) (r : DecodeResult) :
    (s.onNewWord w r).events = s.events := rfl
@[simp] theorem State.onNewWord_params (s : State) (w : Word) (r : DecodeResult) :
    (s.onNewWord w r).params = s.params := rfl

/-- Every arm of `exec` is the event of the instruction's own word, with some mnemonic and operands. -/
theorem exec_takes_its_word (i : Instr) (s : State) : ∃ mn ops, exec i s = takeText (encode i) mn ops s := by
  cases i <;> exact ⟨_, _, rfl⟩

/-- The text of `exec`'s instruction does not depend on the cache or the events. -/
theorem exec_text_uniform (i : Instr) : ∃ mn ops, ∀ s, exec i s = takeText (encode i) mn ops s := by
  cases i <;> exact ⟨_, _, fun _ => rfl⟩

@[simp] theorem withFetchWord_events (s : State) (nbits w : Nat) :
    (s.withFetchWord nbits w).events = tableWord nbits w :: s.events := rfl

@[simp] theorem render_no_operands (p : Params) (mn : String) : render p mn [] = mn := rfl

end Sys2Proof.Machine
end

