-- ==== Sys2Proof/Laws/PerInstr.lean ====
section
/-! SUPPORT. Statements about every instruction as syntax, one lemma per constructor. -/

namespace Sys2Proof.Laws

/-! How each layout meets a mask of the opcode table: the compared fields stand, the rest is zero. -/

theorem encU_opcode (imm : Word) (rd : RegNum) (op : BitVec 7) : encU imm rd op &&& 0x0000007f = (0#25 ++ op : Word) := by
  unfold encU
  apply BitVec.eq_of_getLsbD_eq
  intro i hi
  simp only [BitVec.getLsbD_append, BitVec.getLsbD_and, BitVec.getLsbD_ofNat]
  interval_cases i <;> simp

theorem encJ_opcode (imm : BitVec 21) (rd : RegNum) : encJ imm rd &&& 0x0000007f = (0#25 ++ 0b1101111#7 : Word) := by
  unfold encJ
  apply BitVec.eq_of_getLsbD_eq
  intro i hi
  simp only [BitVec.getLsbD_append, BitVec.getLsbD_and, BitVec.getLsbD_ofNat]
  interval_cases i <;> simp

theorem encI_funct3 (imm : BitVec 12) (rs1 rd : RegNum) (f3 : BitVec 3) (op : BitVec 7) :
    encI imm rs1 f3 rd op &&& 0x0000707f = (0#17 ++ f3 ++ 0#5 ++ op : Word) := by
  unfold encI
  apply BitVec.eq_of_getLsbD_eq
  intro i hi
  simp only [BitVec.getLsbD_append, BitVec.getLsbD_and, BitVec.getLsbD_ofNat]
  interval_cases i <;> simp

theorem encS_funct3 (imm : BitVec 12) (rs2 rs1 : RegNum) (f3 : BitVec 3) :
    encS imm rs2 rs1 f3 &&& 0x0000707f = (0#17 ++ f3 ++ 0#5 ++ 0b0100011#7 : Word) := by
  unfold encS
  apply BitVec.eq_of_getLsbD_eq
  intro i hi
  simp only [BitVec.getLsbD_append, BitVec.getLsbD_and, BitVec.getLsbD_ofNat]
  interval_cases i <;> simp

theorem encB_funct3 (imm : BitVec 13) (rs2 rs1 : RegNum) (f3 : BitVec 3) :
    encB imm rs2 rs1 f3 &&& 0x0000707f = (0#17 ++ f3 ++ 0#5 ++ 0b1100011#7 : Word) := by
  unfold encB
  apply BitVec.eq_of_getLsbD_eq
  intro i hi
  simp only [BitVec.getLsbD_append, BitVec.getLsbD_and, BitVec.getLsbD_ofNat]
  interval_cases i <;> simp

theorem encM_funct3 (hi : BitVec 17) (f3 : BitVec 3) (lo : BitVec 5) :
    encM hi f3 lo &&& 0x0000707f = (0#17 ++ f3 ++ 0#5 ++ 0b0001111#7 : Word) := by
  unfold encM
  apply BitVec.eq_of_getLsbD_eq
  intro i hi
  simp only [BitVec.getLsbD_append, BitVec.getLsbD_and, BitVec.getLsbD_ofNat]
  interval_cases i <;> simp

theorem encR_funct3 (f7 : BitVec 7) (rs2 rs1 rd : RegNum) (f3 : BitVec 3) (op : BitVec 7) :
    encR f7 rs2 rs1 f3 rd op &&& 0x0000707f = (0#17 ++ f3 ++ 0#5 ++ op : Word) := by
  unfold encR
  apply BitVec.eq_of_getLsbD_eq
  intro i hi
  simp only [BitVec.getLsbD_append, BitVec.getLsbD_and, BitVec.getLsbD_ofNat]
  interval_cases i <;> simp

theorem encR_funct7 (f7 : BitVec 7) (rs2 rs1 rd : RegNum) (f3 : BitVec 3) (op : BitVec 7) :
    encR f7 rs2 rs1 f3 rd op &&& 0xfe00707f = (f7 ++ 0#10 ++ f3 ++ 0#5 ++ op : Word) := by
  unfold encR
  apply BitVec.eq_of_getLsbD_eq
  intro i hi
  simp only [BitVec.getLsbD_append, BitVec.getLsbD_and, BitVec.getLsbD_ofNat]
  interval_cases i <;> simp

/-- The encoder's word has, in the bits the instruction's row of the opcode table compares, the row's
values (R3, R323). -/
def MatchesRow.Statement (i : Instr) : Prop := encode i &&& (tableRow i).mask = (tableRow i).value

theorem MatchesRow.lui : ∀ rd imm, MatchesRow.Statement (.lui rd imm) := by
  intros
  exact encU_opcode ..

theorem MatchesRow.auipc : ∀ rd imm, MatchesRow.Statement (.auipc rd imm) := by
  intros
  exact encU_opcode ..

theorem MatchesRow.jal : ∀ rd imm, MatchesRow.Statement (.jal rd imm) := by
  intros
  exact encJ_opcode ..

theorem MatchesRow.jalr : ∀ rd rs1 imm, MatchesRow.Statement (.jalr rd rs1 imm) := by
  intros
  exact encI_funct3 ..

theorem MatchesRow.beq : ∀ rs1 rs2 imm, MatchesRow.Statement (.beq rs1 rs2 imm) := by
  intros
  exact encB_funct3 ..

theorem MatchesRow.bne : ∀ rs1 rs2 imm, MatchesRow.Statement (.bne rs1 rs2 imm) := by
  intros
  exact encB_funct3 ..

theorem MatchesRow.blt : ∀ rs1 rs2 imm, MatchesRow.Statement (.blt rs1 rs2 imm) := by
  intros
  exact encB_funct3 ..

theorem MatchesRow.bge : ∀ rs1 rs2 imm, MatchesRow.Statement (.bge rs1 rs2 imm) := by
  intros
  exact encB_funct3 ..

theorem MatchesRow.bltu : ∀ rs1 rs2 imm, MatchesRow.Statement (.bltu rs1 rs2 imm) := by
  intros
  exact encB_funct3 ..

theorem MatchesRow.bgeu : ∀ rs1 rs2 imm, MatchesRow.Statement (.bgeu rs1 rs2 imm) := by
  intros
  exact encB_funct3 ..

theorem MatchesRow.lb : ∀ rd rs1 imm, MatchesRow.Statement (.lb rd rs1 imm) := by
  intros
  exact encI_funct3 ..

theorem MatchesRow.lh : ∀ rd rs1 imm, MatchesRow.Statement (.lh rd rs1 imm) := by
  intros
  exact encI_funct3 ..

theorem MatchesRow.lw : ∀ rd rs1 imm, MatchesRow.Statement (.lw rd rs1 imm) := by
  intros
  exact encI_funct3 ..

theorem MatchesRow.lbu : ∀ rd rs1 imm, MatchesRow.Statement (.lbu rd rs1 imm) := by
  intros
  exact encI_funct3 ..

theorem MatchesRow.lhu : ∀ rd rs1 imm, MatchesRow.Statement (.lhu rd rs1 imm) := by
  intros
  exact encI_funct3 ..

theorem MatchesRow.sb : ∀ rs2 rs1 imm, MatchesRow.Statement (.sb rs2 rs1 imm) := by
  intros
  exact encS_funct3 ..

theorem MatchesRow.sh : ∀ rs2 rs1 imm, MatchesRow.Statement (.sh rs2 rs1 imm) := by
  intros
  exact encS_funct3 ..

theorem MatchesRow.sw : ∀ rs2 rs1 imm, MatchesRow.Statement (.sw rs2 rs1 imm) := by
  intros
  exact encS_funct3 ..

theorem MatchesRow.addi : ∀ rd rs1 imm, MatchesRow.Statement (.addi rd rs1 imm) := by
  intros
  exact encI_funct3 ..

theorem MatchesRow.slti : ∀ rd rs1 imm, MatchesRow.Statement (.slti rd rs1 imm) := by
  intros
  exact encI_funct3 ..

theorem MatchesRow.sltiu : ∀ rd rs1 imm, MatchesRow.Statement (.sltiu rd rs1 imm) := by
  intros
  exact encI_funct3 ..

theorem MatchesRow.xori : ∀ rd rs1 imm, MatchesRow.Statement (.xori rd rs1 imm) := by
  intros
  exact encI_funct3 ..

theorem MatchesRow.ori : ∀ rd rs1 imm, MatchesRow.Statement (.ori rd rs1 imm) := by
  intros
  exact encI_funct3 ..

theorem MatchesRow.andi : ∀ rd rs1 imm, MatchesRow.Statement (.andi rd rs1 imm) := by
  intros
  exact encI_funct3 ..

theorem MatchesRow.slli : ∀ funct7 rd rs1 shamt, MatchesRow.Statement (.slli funct7 rd rs1 shamt) := by
  intros
  exact encR_funct3 ..

theorem MatchesRow.srli : ∀ rd rs1 shamt, MatchesRow.Statement (.srli rd rs1 shamt) := by
  intros
  exact encR_funct7 ..

theorem MatchesRow.srai : ∀ rd rs1 shamt, MatchesRow.Statement (.srai rd rs1 shamt) := by
  intros
  exact encR_funct7 ..

theorem MatchesRow.add : ∀ rd rs1 rs2, MatchesRow.Statement (.add rd rs1 rs2) := by
  intros
  exact encR_funct7 ..

theorem MatchesRow.sub : ∀ rd rs1 rs2, MatchesRow.Statement (.sub rd rs1 rs2) := by
  intros
  exact encR_funct7 ..

theorem MatchesRow.sll : ∀ rd rs1 rs2, MatchesRow.Statement (.sll rd rs1 rs2) := by
  intros
  exact encR_funct7 ..

theorem MatchesRow.slt : ∀ rd rs1 rs2, MatchesRow.Statement (.slt rd rs1 rs2) := by
  intros
  exact encR_funct7 ..

theorem MatchesRow.sltu : ∀ rd rs1 rs2, MatchesRow.Statement (.sltu rd rs1 rs2) := by
  intros
  exact encR_funct7 ..

theorem MatchesRow.xor : ∀ rd rs1 rs2, MatchesRow.Statement (.xor rd rs1 rs2) := by
  intros
  exact encR_funct7 ..

theorem MatchesRow.srl : ∀ rd rs1 rs2, MatchesRow.Statement (.srl rd rs1 rs2) := by
  intros
  exact encR_funct7 ..

theorem MatchesRow.sra : ∀ rd rs1 rs2, MatchesRow.Statement (.sra rd rs1 rs2) := by
  intros
  exact encR_funct7 ..

theorem MatchesRow.or : ∀ rd rs1 rs2, MatchesRow.Statement (.or rd rs1 rs2) := by
  intros
  exact encR_funct7 ..

theorem MatchesRow.and : ∀ rd rs1 rs2, MatchesRow.Statement (.and rd rs1 rs2) := by
  intros
  exact encR_funct7 ..

theorem MatchesRow.mul : ∀ rd rs1 rs2, MatchesRow.Statement (.mul rd rs1 rs2) := by
  intros
  exact encR_funct7 ..

theorem MatchesRow.mulh : ∀ rd rs1 rs2, MatchesRow.Statement (.mulh rd rs1 rs2) := by
  intros
  exact encR_funct7 ..

theorem MatchesRow.mulhsu : ∀ rd rs1 rs2, MatchesRow.Statement (.mulhsu rd rs1 rs2) := by
  intros
  exact encR_funct7 ..

theorem MatchesRow.mulhu : ∀ rd rs1 rs2, MatchesRow.Statement (.mulhu rd rs1 rs2) := by
  intros
  exact encR_funct7 ..

theorem MatchesRow.div : ∀ rd rs1 rs2, MatchesRow.Statement (.div rd rs1 rs2) := by
  intros
  exact encR_funct7 ..

theorem MatchesRow.divu : ∀ rd rs1 rs2, MatchesRow.Statement (.divu rd rs1 rs2) := by
  intros
  exact encR_funct7 ..

theorem MatchesRow.rem : ∀ rd rs1 rs2, MatchesRow.Statement (.rem rd rs1 rs2) := by
  intros
  exact encR_funct7 ..

theorem MatchesRow.remu : ∀ rd rs1 rs2, MatchesRow.Statement (.remu rd rs1 rs2) := by
  intros
  exact encR_funct7 ..

theorem MatchesRow.fence : ∀ hi lo, MatchesRow.Statement (.fence hi lo) := by
  intros
  exact encM_funct3 ..

theorem MatchesRow.fenceI : ∀ hi lo, MatchesRow.Statement (.fenceI hi lo) := by
  intros
  exact encM_funct3 ..

theorem MatchesRow.ecall : MatchesRow.Statement .ecall := rfl

theorem MatchesRow.ebreak : MatchesRow.Statement .ebreak := rfl

theorem MatchesRow.uret : MatchesRow.Statement .uret := rfl

theorem MatchesRow.sret : MatchesRow.Statement .sret := rfl

theorem MatchesRow.mret : MatchesRow.Statement .mret := rfl

theorem MatchesRow.wfi : MatchesRow.Statement .wfi := rfl

theorem MatchesRow.csrrw : ∀ rd csr rs1, MatchesRow.Statement (.csrrw rd csr rs1) := by
  intros
  exact encI_funct3 ..

theorem MatchesRow.csrrs : ∀ rd csr rs1, MatchesRow.Statement (.csrrs rd csr rs1) := by
  intros
  exact encI_funct3 ..

theorem MatchesRow.csrrc : ∀ rd csr rs1, MatchesRow.Statement (.csrrc rd csr rs1) := by
  intros
  exact encI_funct3 ..

theorem MatchesRow.csrrwi : ∀ rd csr uimm, MatchesRow.Statement (.csrrwi rd csr uimm) := by
  intros
  exact encI_funct3 ..

theorem MatchesRow.csrrsi : ∀ rd csr uimm, MatchesRow.Statement (.csrrsi rd csr uimm) := by
  intros
  exact encI_funct3 ..

theorem MatchesRow.csrrci : ∀ rd csr uimm, MatchesRow.Statement (.csrrci rd csr uimm) := by
  intros
  exact encI_funct3 ..

end Sys2Proof.Laws
end

