-- ==== Sys2Proof/Tests/Slice0.lean ====
section
/-! SUPPORT. The model's own tests. Expected results stand in spec/ (the rule or vector each comment
names); none is the model's own answer. -/

namespace Sys2Proof.Tests

open Sys2Proof.Machine

/-! ## WellFormed: an ill-formed term for each check -/

theorem test_wellFormed_refuses_lui_low_bits : Instr.wellFormed (.lui 1 0x12345001) = false := by decide
theorem test_wellFormed_refuses_auipc_low_bits : Instr.wellFormed (.auipc 1 0x00000800) = false := by decide
theorem test_wellFormed_refuses_odd_branch : Instr.wellFormed (.bne 1 2 0x003) = false := by decide
theorem test_wellFormed_refuses_odd_jump : Instr.wellFormed (.jal 1 0x000801) = false := by decide
theorem test_wellFormed_accepts : Instr.wellFormed (.lui 1 0x12345000) = true ∧ Instr.wellFormed (.bne 1 2 0x002) = true ∧
    Instr.wellFormed (.jal 1 0x000802) = true ∧ Instr.wellFormed (.addi 1 2 (-1)) = true := by decide

/-! ## Every constructor: one word, its instruction and its text -/

/-- The text the port presents after the event of `w` on a fresh instance, if the cache then holds `w`
with a text and no event is left. -/
def textAfter (w : Word) : Option String :=
  match step (State.reset.withFetchWord 32 w.toNat) with
  | .next ⟨.held cw (.text s), [], _⟩ => if cw = w then some s else none
  | _ => none

/-- R400: the word decodes, and its event after reset presents the text. -/
theorem test_instr_lui : decodeWord 0x123450b7 = .ok (.lui 1 0x12345000) ∧ textAfter 0x123450b7 = some "lui      x1, 0x12345000" := by decide

/-- R401: the word decodes, and its event after reset presents the text. -/
theorem test_instr_auipc : decodeWord 0xfffff117 = .ok (.auipc 2 0xfffff000) ∧ textAfter 0xfffff117 = some "auipc    x2, 0xfffff000" := by decide

/-- R402: the word decodes, and its event after reset presents the text. -/
theorem test_instr_jal : decodeWord 0xffdff06f = .ok (.jal 0 (-4)) ∧ textAfter 0xffdff06f = some "jal      x0, .-0x00000004" := by decide

/-- R404: the word decodes, and its event after reset presents the text. -/
theorem test_instr_jalr : decodeWord 0xff0280e7 = .ok (.jalr 1 5 (-16)) ∧ textAfter 0xff0280e7 = some "jalr     x1, -16(x5)" := by decide

/-- R421: the word decodes, and its event after reset presents the text. -/
theorem test_instr_beq : decodeWord 0xfe208ce3 = .ok (.beq 1 2 (-8)) ∧ textAfter 0xfe208ce3 = some "beq      x1, x2, .-0x00000008" := by decide

/-- R422: the word decodes, and its event after reset presents the text. -/
theorem test_instr_bne : decodeWord 0x00419663 = .ok (.bne 3 4 12) ∧ textAfter 0x00419663 = some "bne      x3, x4, .+0x0000000c" := by decide

/-- R423: the word decodes, and its event after reset presents the text. -/
theorem test_instr_blt : decodeWord 0x8062c063 = .ok (.blt 5 6 (-4096)) ∧ textAfter 0x8062c063 = some "blt      x5, x6, .-0x00001000" := by decide

/-- R424: the word decodes, and its event after reset presents the text. -/
theorem test_instr_bge : decodeWord 0x7e83dfe3 = .ok (.bge 7 8 4094) ∧ textAfter 0x7e83dfe3 = some "bge      x7, x8, .+0x00000ffe" := by decide

/-- R425: the word decodes, and its event after reset presents the text. -/
theorem test_instr_bltu : decodeWord 0x00a4e063 = .ok (.bltu 9 10 0) ∧ textAfter 0x00a4e063 = some "bltu     x9, x10, .+0x00000000" := by decide

/-- V2: the word decodes, and its event after reset presents the text. -/
theorem test_instr_bgeu : decodeWord 0x00a570e3 = .ok (.bgeu 10 10 2048) ∧ textAfter 0x00a570e3 = some "bgeu     x10, x10, .+0x00000800" := by decide

/-- R441: the word decodes, and its event after reset presents the text. -/
theorem test_instr_lb : decodeWord 0xfff10283 = .ok (.lb 5 2 (-1)) ∧ textAfter 0xfff10283 = some "lb       x5, -1(x2)" := by decide

/-- R442: the word decodes, and its event after reset presents the text. -/
theorem test_instr_lh : decodeWord 0x00211303 = .ok (.lh 6 2 2) ∧ textAfter 0x00211303 = some "lh       x6, 2(x2)" := by decide

/-- R443: the word decodes, and its event after reset presents the text. -/
theorem test_instr_lw : decodeWord 0x7ff12383 = .ok (.lw 7 2 2047) ∧ textAfter 0x7ff12383 = some "lw       x7, 2047(x2)" := by decide

/-- R444: the word decodes, and its event after reset presents the text. -/
theorem test_instr_lbu : decodeWord 0x80014403 = .ok (.lbu 8 2 (-2048)) ∧ textAfter 0x80014403 = some "lbu      x8, -2048(x2)" := by decide

/-- R445: the word decodes, and its event after reset presents the text. -/
theorem test_instr_lhu : decodeWord 0x00615483 = .ok (.lhu 9 2 6) ∧ textAfter 0x00615483 = some "lhu      x9, 6(x2)" := by decide

/-- R451: the word decodes, and its event after reset presents the text. -/
theorem test_instr_sb : decodeWord 0xfe510fa3 = .ok (.sb 5 2 (-1)) ∧ textAfter 0xfe510fa3 = some "sb       x5, -1(x2)" := by decide

/-- V3: the word decodes, and its event after reset presents the text. -/
theorem test_instr_sh : decodeWord 0x80419023 = .ok (.sh 4 3 (-2048)) ∧ textAfter 0x80419023 = some "sh       x4, -2048(x3)" := by decide

/-- R453: the word decodes, and its event after reset presents the text. -/
theorem test_instr_sw : decodeWord 0x7e712fa3 = .ok (.sw 7 2 2047) ∧ textAfter 0x7e712fa3 = some "sw       x7, 2047(x2)" := by decide

/-- R461: the word decodes, and its event after reset presents the text. -/
theorem test_instr_addi : decodeWord 0x80030293 = .ok (.addi 5 6 (-2048)) ∧ textAfter 0x80030293 = some "addi     x5, x6, -2048" := by decide

/-- V4: the word decodes, and its event after reset presents the text. -/
theorem test_instr_slti : decodeWord 0x7ff1a113 = .ok (.slti 2 3 2047) ∧ textAfter 0x7ff1a113 = some "slti     x2, x3, 2047" := by decide

/-- R463: the word decodes, and its event after reset presents the text. -/
theorem test_instr_sltiu : decodeWord 0xfff33293 = .ok (.sltiu 5 6 (-1)) ∧ textAfter 0xfff33293 = some "sltiu    x5, x6, -1" := by decide

/-- R464: the word decodes, and its event after reset presents the text. -/
theorem test_instr_xori : decodeWord 0x55534293 = .ok (.xori 5 6 1365) ∧ textAfter 0x55534293 = some "xori     x5, x6, 1365" := by decide

/-- R465: the word decodes, and its event after reset presents the text. -/
theorem test_instr_ori : decodeWord 0x0ff36293 = .ok (.ori 5 6 255) ∧ textAfter 0x0ff36293 = some "ori      x5, x6, 255" := by decide

/-- R466: the word decodes, and its event after reset presents the text. -/
theorem test_instr_andi : decodeWord 0x00f37293 = .ok (.andi 5 6 15) ∧ textAfter 0x00f37293 = some "andi     x5, x6, 15" := by decide

/-- R467, funct7 ignored: the word decodes, and its event after reset presents the text. -/
theorem test_instr_slli : decodeWord 0x40331293 = .ok (.slli 0x20 5 6 3) ∧ textAfter 0x40331293 = some "slli     x5, x6, 3" := by decide

/-- R468: the word decodes, and its event after reset presents the text. -/
theorem test_instr_srli : decodeWord 0x00435293 = .ok (.srli 5 6 4) ∧ textAfter 0x00435293 = some "srli     x5, x6, 4" := by decide

/-- R469: the word decodes, and its event after reset presents the text. -/
theorem test_instr_srai : decodeWord 0x40435293 = .ok (.srai 5 6 4) ∧ textAfter 0x40435293 = some "srai     x5, x6, 4" := by decide

/-- V5: the word decodes, and its event after reset presents the text. -/
theorem test_instr_add : decodeWord 0x005201b3 = .ok (.add 3 4 5) ∧ textAfter 0x005201b3 = some "add      x3, x4, x5" := by decide

/-- V5: the word decodes, and its event after reset presents the text. -/
theorem test_instr_sub : decodeWord 0x405201b3 = .ok (.sub 3 4 5) ∧ textAfter 0x405201b3 = some "sub      x3, x4, x5" := by decide

/-- V5: the word decodes, and its event after reset presents the text. -/
theorem test_instr_sll : decodeWord 0x005211b3 = .ok (.sll 3 4 5) ∧ textAfter 0x005211b3 = some "sll      x3, x4, x5" := by decide

/-- V5: the word decodes, and its event after reset presents the text. -/
theorem test_instr_slt : decodeWord 0x005221b3 = .ok (.slt 3 4 5) ∧ textAfter 0x005221b3 = some "slt      x3, x4, x5" := by decide

/-- V5: the word decodes, and its event after reset presents the text. -/
theorem test_instr_sltu : decodeWord 0x005231b3 = .ok (.sltu 3 4 5) ∧ textAfter 0x005231b3 = some "sltu     x3, x4, x5" := by decide

/-- V5: the word decodes, and its event after reset presents the text. -/
theorem test_instr_xor : decodeWord 0x005241b3 = .ok (.xor 3 4 5) ∧ textAfter 0x005241b3 = some "xor      x3, x4, x5" := by decide

/-- V5: the word decodes, and its event after reset presents the text. -/
theorem test_instr_srl : decodeWord 0x005251b3 = .ok (.srl 3 4 5) ∧ textAfter 0x005251b3 = some "srl      x3, x4, x5" := by decide

/-- V5: the word decodes, and its event after reset presents the text. -/
theorem test_instr_sra : decodeWord 0x405251b3 = .ok (.sra 3 4 5) ∧ textAfter 0x405251b3 = some "sra      x3, x4, x5" := by decide

/-- V5: the word decodes, and its event after reset presents the text. -/
theorem test_instr_or : decodeWord 0x005261b3 = .ok (.or 3 4 5) ∧ textAfter 0x005261b3 = some "or       x3, x4, x5" := by decide

/-- V5: the word decodes, and its event after reset presents the text. -/
theorem test_instr_and : decodeWord 0x005271b3 = .ok (.and 3 4 5) ∧ textAfter 0x005271b3 = some "and      x3, x4, x5" := by decide

/-- V6: the word decodes, and its event after reset presents the text. -/
theorem test_instr_mul : decodeWord 0x02a48433 = .ok (.mul 8 9 10) ∧ textAfter 0x02a48433 = some "mul      x8, x9, x10" := by decide

/-- V6: the word decodes, and its event after reset presents the text. -/
theorem test_instr_mulh : decodeWord 0x02a49433 = .ok (.mulh 8 9 10) ∧ textAfter 0x02a49433 = some "mulh     x8, x9, x10" := by decide

/-- V6: the word decodes, and its event after reset presents the text. -/
theorem test_instr_mulhsu : decodeWord 0x02a4a433 = .ok (.mulhsu 8 9 10) ∧ textAfter 0x02a4a433 = some "mulhsu   x8, x9, x10" := by decide

/-- V6: the word decodes, and its event after reset presents the text. -/
theorem test_instr_mulhu : decodeWord 0x02a4b433 = .ok (.mulhu 8 9 10) ∧ textAfter 0x02a4b433 = some "mulhu    x8, x9, x10" := by decide

/-- V6: the word decodes, and its event after reset presents the text. -/
theorem test_instr_div : decodeWord 0x02a4c433 = .ok (.div 8 9 10) ∧ textAfter 0x02a4c433 = some "div      x8, x9, x10" := by decide

/-- V6: the word decodes, and its event after reset presents the text. -/
theorem test_instr_divu : decodeWord 0x02a4d433 = .ok (.divu 8 9 10) ∧ textAfter 0x02a4d433 = some "divu     x8, x9, x10" := by decide

/-- V6: the word decodes, and its event after reset presents the text. -/
theorem test_instr_rem : decodeWord 0x02a4e433 = .ok (.rem 8 9 10) ∧ textAfter 0x02a4e433 = some "rem      x8, x9, x10" := by decide

/-- V6: the word decodes, and its event after reset presents the text. -/
theorem test_instr_remu : decodeWord 0x02a4f433 = .ok (.remu 8 9 10) ∧ textAfter 0x02a4f433 = some "remu     x8, x9, x10" := by decide

/-- V7, don't-care bits set: the word decodes, and its event after reset presents the text. -/
theorem test_instr_fence : decodeWord 0xffff808f = .ok (.fence 0x1ffff 1) ∧ textAfter 0xffff808f = some "fence" := by decide

/-- R512: the word decodes, and its event after reset presents the text. -/
theorem test_instr_fenceI : decodeWord 0x0000100f = .ok (.fenceI 0 0) ∧ textAfter 0x0000100f = some "fence.i" := by decide

/-- R521: the word decodes, and its event after reset presents the text. -/
theorem test_instr_ecall : decodeWord 0x00000073 = .ok (.ecall) ∧ textAfter 0x00000073 = some "ecall" := by decide

/-- R522, source vector S2: the word decodes, and its event after reset presents the text. -/
theorem test_instr_ebreak : decodeWord 0x00100073 = .ok (.ebreak) ∧ textAfter 0x00100073 = some "ebreak" := by decide

/-- R523: the word decodes, and its event after reset presents the text. -/
theorem test_instr_uret : decodeWord 0x00200073 = .ok (.uret) ∧ textAfter 0x00200073 = some "uret" := by decide

/-- R524: the word decodes, and its event after reset presents the text. -/
theorem test_instr_sret : decodeWord 0x10200073 = .ok (.sret) ∧ textAfter 0x10200073 = some "sret" := by decide

/-- R525, source vector S5: the word decodes, and its event after reset presents the text. -/
theorem test_instr_mret : decodeWord 0x30200073 = .ok (.mret) ∧ textAfter 0x30200073 = some "mret" := by decide

/-- R526: the word decodes, and its event after reset presents the text. -/
theorem test_instr_wfi : decodeWord 0x10500073 = .ok (.wfi) ∧ textAfter 0x10500073 = some "wfi" := by decide

/-- R531: the word decodes, and its event after reset presents the text. -/
theorem test_instr_csrrw : decodeWord 0x80001073 = .ok (.csrrw 0 0x800 0) ∧ textAfter 0x80001073 = some "csrrw    x0, $0x800, x0" := by decide

/-- R532: the word decodes, and its event after reset presents the text. -/
theorem test_instr_csrrs : decodeWord 0x34202573 = .ok (.csrrs 10 0x342 0) ∧ textAfter 0x34202573 = some "csrrs    x10, mcause, x0" := by decide

/-- V9: the word decodes, and its event after reset presents the text. -/
theorem test_instr_csrrc : decodeWord 0xc005b573 = .ok (.csrrc 10 0xc00 11) ∧ textAfter 0xc005b573 = some "csrrc    x10, cycle, x11" := by decide

/-- R534: the word decodes, and its event after reset presents the text. -/
theorem test_instr_csrrwi : decodeWord 0x3007d0f3 = .ok (.csrrwi 1 0x300 15) ∧ textAfter 0x3007d0f3 = some "csrrwi   x1, mstatus, 0x0000000f" := by decide

/-- V9: the word decodes, and its event after reset presents the text. -/
theorem test_instr_csrrsi : decodeWord 0x7ff06073 = .ok (.csrrsi 0 0x7ff 0) ∧ textAfter 0x7ff06073 = some "csrrsi   x0, $0x7ff, 0x00000000" := by decide

/-- V9: the word decodes, and its event after reset presents the text. -/
theorem test_instr_csrrci : decodeWord 0xfff87173 = .ok (.csrrci 2 0xfff 16) ∧ textAfter 0xfff87173 = some "csrrci   x2, $0xfff, 0x00000010" := by decide

/-! ## Words that are no instruction -/

/-- The cache after the event of `w` on a fresh instance. -/
def cacheAfter (w : Word) : Option Cache :=
  match step (State.reset.withFetchWord 32 w.toNat) with
  | .next t => some t.cache
  | _ => none

/-- V10, S4, R702: opcodes outside the table; the word 0 as first word too. -/
theorem test_noMatch_opcode : cacheAfter 0x00000000 = some (.held 0x00000000 (.noMatch 0x00000000)) ∧
    cacheAfter 0xffffffff = some (.held 0xffffffff (.noMatch 0xffffffff)) ∧
    cacheAfter 0x0000002f = some (.held 0x0000002f (.noMatch 0x0000002f)) := by decide

/-- R403, R420, R440, R450: an unlisted funct3 of JALR, BRANCH, LOAD and STORE. -/
theorem test_noMatch_funct3 : decodeWord 0x000290e7 = .error .jalrFunct3 ∧ decodeWord 0x0020a463 = .error .branchFunct3 ∧
    decodeWord 0x00613483 = .error .loadFunct3 ∧ decodeWord 0x00714423 = .error .storeFunct3 := by decide

/-- R460, R480, R510: an unlisted key of OP-IMM, OP and MISC-MEM. -/
theorem test_noMatch_keys : decodeWord 0x02435293 = .error .opImmFunct7 ∧ decodeWord 0x04c58533 = .error .opFunct7 ∧
    decodeWord 0x40c59533 = .error .opFunct3 ∧ decodeWord 0x0000200f = .error .miscMemFunct3 := by decide

/-- R520: SYSTEM with funct3 = 100, with rd or rs1 not 0, and with another f12. -/
theorem test_noMatch_system : decodeWord 0x00004073 = .error .systemFunct3 ∧ decodeWord 0x00000873 = .error .systemRdRs1 ∧
    decodeWord 0x00008073 = .error .systemRdRs1 ∧ decodeWord 0x12000073 = .error .systemF12 := by decide

/-- R201, R300: bytes of the NOP, little end first, and a stream too short. -/
theorem test_bytes : decodeBytes [0x13, 0, 0, 0, 0xff] = .ok (.addi 0 0 0, [0xff]) ∧ decodeBytes [0x13, 0, 0] = .error .truncated := by
  decide

/-- The table's numbering: bit 0 least significant; the row `srai`'s match word. -/
theorem test_table_word : decodeTableWord 32 0x40005013 = some (.srai 0 0 0) ∧ decodeTableWord 32 0 = none := by decide

/-! ## The field extractor: V0 -/

theorem test_extractor_all_ones : signed (Extractor.immI 0xffffffff) = -1 ∧ signed (Extractor.immB 0xffffffff) = -2 ∧
    Extractor.immU 0xffffffff = 0xfffff000 ∧ signed (Extractor.immJ 0xffffffff) = -2 := by decide
theorem test_extractor_scatter : signed (Extractor.immS 0x80000f00) = -2018 ∧ signed (Extractor.immB 0x80000f00) = -4066 ∧
    signed (Extractor.immJ 0xfff00000) = -1044482 ∧ signed (Extractor.immB 0x00000080) = 2048 := by decide

/-! ## The gate: P4 -/

/-- A state holding the NOP with its text, whose next event is `w`. -/
def holdingNop (w : Word) : State :=
  { State.reset with cache := .held 0x00000013 (.text "addi     x0, x0, 0"), events := [w] }

/-- P4 step 4: the held word presented again is taken and nothing else changes. -/
theorem test_gate_holds : step (holdingNop 0x00000013) = .next { holdingNop 0x00000013 with events := [] } := by rfl

/-- P4 step 5: another word replaces the entry. -/
theorem test_gate_replaces :
    step (holdingNop 0x00000000) =
      .next { holdingNop 0x00000000 with cache := .held 0x00000000 (.noMatch 0x00000000), events := [] } := by rfl

/-- R608, R700: the second of two instances takes an event, the first stands. -/
theorem test_instances : stepInstance (presentTo (instancesReset defaultParams 2) 1 0) 1 =
    .next [State.reset, { State.reset with cache := .held 0 (.noMatch 0) }] := by rfl

/-! ## Witnesses: for every statement with hypotheses, a state and operands that meet them -/

theorem test_witness_decodes : decodeWord 0x00000013 = .ok (.addi 0 0 0) ∧ Instr.wellFormed (.addi 0 0 0) = true := by decide
theorem test_witness_table_row : (0x00000013 : Word) &&& (tableRow (.addi 1 2 3)).mask = (tableRow (.addi 1 2 3)).value := by decide
theorem test_witness_noMatchWord : noMatchWord 0x00000000 ∧ noMatchWord 0x00004073 ∧ ¬ noMatchWord 0x00000013 := by
  refine ⟨?_, ?_, ?_⟩ <;> unfold noMatchWord noMatchKeys <;> decide
theorem test_witness_sign_bits : (0x7fffffff : Word).getLsbD 31 = false ∧ (0x80000000 : Word).getLsbD 31 = true := by decide
theorem test_witness_no_event : State.reset.events = [] := by decide
theorem test_witness_event : (holdingNop 0x00100073).events = 0x00100073 :: [] ∧ decodeWord 0x00100073 = .ok .ebreak := by decide

/-- Both arms of the gate: the same word held, and another. -/
theorem test_witness_gate_arms : (∃ r, (holdingNop 0x00000013).cache = .held 0x00000013 r) ∧
    (∀ r, (holdingNop 0x00000000).cache ≠ .held 0x00000000 r) ∧ (∀ r, State.reset.cache ≠ .held 0x00000000 r) :=
  ⟨⟨_, rfl⟩, fun _ h => absurd (Cache.held.inj h).1 (by decide), nofun⟩

/-- `Presents`: the column is 9, with the instruction's word held and not held. -/
theorem test_witness_presents : (holdingNop 0x00000013).params.column = 9 ∧
    (holdingNop 0x00000013).cache = .held (encode (.addi 0 0 0)) (.text "addi     x0, x0, 0") ∧
    (∀ r, (holdingNop 0x00000013).cache ≠ .held (encode .mret) r) :=
  ⟨rfl, rfl, fun _ h => absurd (Cache.held.inj h).1 (by decide)⟩

theorem test_witness_inv_held : (holdingNop 0x00100073).Inv ∧ (holdingNop 0x00100073).events = [] ++ [0x00100073] := ⟨rfl, rfl⟩
theorem test_witness_step : (holdingNop 0x00000000).events ≠ [] ∧ ∃ t, step (holdingNop 0x00000000) = .next t := ⟨by decide, _, rfl⟩
theorem test_witness_repeated : ({ State.reset with events := [0x13, 0x13] } : State).events = 0x13 :: 0x13 :: [] := by rfl
theorem test_witness_noMatch_event : (holdingNop 0x00000000).events = 0x00000000 :: [] ∧ noMatchWord 0x00000000 :=
  ⟨rfl, test_witness_noMatchWord.1⟩
theorem test_witness_noMatch_held :
    ({ State.reset with cache := .held 0 (.noMatch 0), events := [0] } : State).cache = .held 0 (.noMatch 0) := by rfl
theorem test_witness_exec : ∃ t, exec .wfi State.reset = .next t := ⟨_, rfl⟩
theorem test_witness_shared : sharesTable defaultParams [State.reset, State.reset] ∧
    ([State.reset, State.reset] : Instances)[1]? = some State.reset ∧ step State.reset = .next State.reset ∧ (0 : Nat) ≠ 1 :=
  ⟨by simp [sharesTable, State.reset], rfl, rfl, by decide⟩
theorem test_witness_registers : registersReset.holds .idle ∧
    (Registers.mk true 0 (.presents (.noMatch 0))).holds (.held 0 (.noMatch 0)) ∧
    (Registers.mk false 5 (.presents (.noMatch 0))).valid = false := ⟨rfl, ⟨rfl, rfl, rfl⟩, rfl⟩

theorem test_witness_csr_names : csrNames defaultParams 0x344 = some "mip" ∧ csrNames defaultParams 0x7ff = none := by decide
set_option maxRecDepth 4000 in
theorem test_witness_unlisted_address : ∀ e ∈ defaultCsrNames, e.1 ≠ 0x7ff := by decide
theorem test_witness_hex_range : 31 < 16 ^ 8 ∧ (-1048576 : Int).natAbs < 16 ^ 8 := by decide
theorem test_witness_numerals : (0 : Int) ≤ 5 ∧ (-5 : Int) < 0 ∧ dec 5 = "5" ∧ dec (-5) = "-5" := by decide

/-- The word 0x13, taken by the machine of the host's interface: the last word of a run of two. -/
theorem test_witness_run : ({ State.reset with events := [0x73, 0x13] } : State).Inv ∧
    ({ State.reset with events := [0x73, 0x13] } : State).events = [0x73] ++ [0x13] := ⟨trivial, rfl⟩

end Sys2Proof.Tests
end

section
/-! Proofs about the numerals of R13: the decimal spelling `dec` and the hexadecimal spelling `hex`
read back as the number they spell. -/

namespace Sys2Proof.Proofs
open Sys2Proof.Machine

/-! Digit characters, and a numeral with one more digit at its end. -/

@[simp] theorem digitValue_digitChar (d : Nat) (hd : d < 16) : digitValue (Nat.digitChar d) = some d := by
  revert d; decide

theorem digitChar_eq_zero_iff (d : Nat) (hd : d < 16) : Nat.digitChar d = '0' ↔ d = 0 := by
  revert d; decide

theorem digitChar_isLowerHex (d : Nat) (hd : d < 16) :
    ('0' ≤ Nat.digitChar d ∧ Nat.digitChar d ≤ '9') ∨ ('a' ≤ Nat.digitChar d ∧ Nat.digitChar d ≤ 'f') := by
  revert d; decide

@[simp] theorem numeralValue_nil (base : Nat) : numeralValue base [] = some 0 := rfl

theorem numeralValue_concat_digitChar {base a d : Nat} {cs : List Char} (hb : base ≤ 16) (hd : d < base)
    (hcs : numeralValue base cs = some a) :
    numeralValue base (cs ++ [Nat.digitChar d]) = some (a * base + d) := by
  unfold numeralValue at hcs ⊢
  rw [List.foldl_append, hcs]
  simp [digitValue_digitChar d (by omega), hd]

/-! The decimal digits: one equation for each branch of the recursion. -/

theorem decDigits_of_lt_ten (fuel : Nat) {n : Nat} (hn : n < 10) :
    decDigits (fuel + 1) n = [Nat.digitChar n] := by
  simp [decDigits, hn]

theorem decDigits_of_ten_le (fuel : Nat) {n : Nat} (hn : 10 ≤ n) :
    decDigits (fuel + 1) n = decDigits fuel (n / 10) ++ [Nat.digitChar (n % 10)] := by
  simp [decDigits, Nat.not_lt.mpr hn]

theorem numeralValue_decDigits {fuel n : Nat} (hfuel : n < fuel) :
    numeralValue 10 (decDigits fuel n) = some n := by
  induction fuel generalizing n with
  | zero => omega
  | succ fuel ih =>
    rcases Nat.lt_or_ge n 10 with hn | hn
    · have hone := numeralValue_concat_digitChar (by decide) hn (numeralValue_nil 10)
      simpa [decDigits_of_lt_ten fuel hn] using hone
    · have hinit : numeralValue 10 (decDigits fuel (n / 10)) = some (n / 10) := ih (by omega)
      rw [decDigits_of_ten_le fuel hn,
        numeralValue_concat_digitChar (by decide) (Nat.mod_lt n (by decide)) hinit, Nat.div_add_mod']

/-- The leading digit is not 0: dropping the last digit of a number of two or more digits leaves a
positive number, whose leading digit is the same. -/
theorem decDigits_head_of_pos {fuel n : Nat} (hpos : 0 < n) (hfuel : n < fuel) :
    ∃ c, (decDigits fuel n).head? = some c ∧ c ≠ '0' := by
  induction fuel generalizing n with
  | zero => omega
  | succ fuel ih =>
    rcases Nat.lt_or_ge n 10 with hn | hn
    · exact ⟨Nat.digitChar n, by simp [decDigits_of_lt_ten fuel hn],
        fun h => hpos.ne' ((digitChar_eq_zero_iff n (by omega)).mp h)⟩
    · obtain ⟨c, hhead, hc⟩ := ih (n := n / 10) (by omega) (by omega)
      exact ⟨c, by simp [decDigits_of_ten_le fuel hn, hhead], hc⟩

/-! The decimal spelling of a natural number and of an integer. -/

@[simp] theorem decNat_toList (n : Nat) : (decNat n).toList = decDigits (n + 1) n := String.toList_ofList

theorem decNat_zero : decNat 0 = "0" := by decide

theorem numeralValue_decNat (n : Nat) : numeralValue 10 (decNat n).toList = some n := by
  rw [decNat_toList]
  exact numeralValue_decDigits n.lt_succ_self

theorem decNat_head_eq_zero_iff (n : Nat) : (decNat n).toList.head? = some '0' ↔ n = 0 := by
  constructor
  · intro hzero
    by_contra hn
    obtain ⟨c, hhead, hc⟩ := decDigits_head_of_pos (Nat.pos_of_ne_zero hn) n.lt_succ_self
    rw [decNat_toList, hhead] at hzero
    exact hc (Option.some.inj hzero)
  · rintro rfl
    rfl

theorem dec_of_nonneg {n : Int} (hn : 0 ≤ n) : dec n = decNat n.toNat := by
  have hmag : n.natAbs = n.toNat := by omega
  simp [dec, Int.not_lt.mpr hn, hmag]

theorem dec_of_neg {n : Int} (hn : n < 0) : dec n = "-" ++ decNat (-n).toNat := by
  have hmag : n.natAbs = (-n).toNat := by omega
  simp [dec, hn, hmag]

/-- Settles O31: the digits read back by induction on the fuel, which exceeds the number, and the
same induction keeps the leading digit of a positive number from being 0. -/
theorem decimalSpellingReadsBack : Obligations.DecimalSpellingReadsBack :=
  ⟨fun n => ⟨numeralValue_decNat n, decNat_head_eq_zero_iff n⟩, decNat_zero,
    fun _ => dec_of_nonneg, fun _ => dec_of_neg⟩

/-! The hexadecimal spelling. -/

@[simp] theorem hex_toList (v k : Nat) : (hex v k).toList = hexDigits k v := String.toList_ofList

@[simp] theorem hexDigits_length (k v : Nat) : (hexDigits k v).length = k := by
  induction k generalizing v with
  | zero => rfl
  | succ k ih => simp [hexDigits, ih]

@[simp] theorem hex_length (v k : Nat) : (hex v k).length = k := by
  rw [← String.length_toList, hex_toList, hexDigits_length]

theorem numeralValue_hexDigits {k v : Nat} (hv : v < 16 ^ k) : numeralValue 16 (hexDigits k v) = some v := by
  induction k generalizing v with
  | zero =>
    obtain rfl : v = 0 := by simpa using hv
    rfl
  | succ k ih =>
    have hinit : numeralValue 16 (hexDigits k (v / 16)) = some (v / 16) :=
      ih (Nat.div_lt_of_lt_mul (by rwa [← Nat.pow_succ']))
    rw [hexDigits, numeralValue_concat_digitChar le_rfl (Nat.mod_lt v (by decide)) hinit,
      Nat.div_add_mod']

theorem numeralValue_hex {v k : Nat} (hv : v < 16 ^ k) : numeralValue 16 (hex v k).toList = some v := by
  rw [hex_toList]
  exact numeralValue_hexDigits hv

theorem hexDigits_isLowerHex {k v : Nat} {c : Char} (hc : c ∈ hexDigits k v) :
    ('0' ≤ c ∧ c ≤ '9') ∨ ('a' ≤ c ∧ c ≤ 'f') := by
  induction k generalizing v with
  | zero => simp [hexDigits] at hc
  | succ k ih =>
    rcases List.mem_append.mp hc with hinit | hlast
    · exact ih hinit
    · obtain rfl := List.mem_singleton.mp hlast
      exact digitChar_isLowerHex _ (Nat.mod_lt v (by decide))

/-- Settles O32: each of the three parts by induction on the number of digits; only the reading back
needs the bound on the value. -/
theorem hexSpellingReadsBack : Obligations.HexSpellingReadsBack :=
  fun v k hv => ⟨hex_length v k, numeralValue_hex hv, fun _ hc => hexDigits_isLowerHex (hex_toList v k ▸ hc)⟩

end Sys2Proof.Proofs
end

section
/-! Proofs about the decoder: a word's own fields put back in its layout are the word (R302), and the
model's two readings of a word, `decodeWord` with `exec` and the reference `decode` of R321, agree. -/

namespace Sys2Proof.Proofs
open Sys2Proof.Machine Sys2Proof.Extractor

/-! Each layout of R302, given a word's own fields, is the word. Adjacent fields join to the field that
spans them; the scattered immediates of B and J are compared bit by bit. -/

theorem encR_of_fields {w : Word} {f7 : BitVec 7} {f3 : BitVec 3} {op : BitVec 7}
    (hop : opcode w = op) (h3 : funct3 w = f3) (h7 : funct7 w = f7) :
    encR f7 (rs2 w) (rs1 w) f3 (rd w) op = w := by
  subst hop h3 h7
  unfold encR funct7 rs2 rs1 funct3 rd opcode
  iterate 5 rw [BitVec.extractLsb'_append_extractLsb'_eq_extractLsb' (by rfl)]
  exact BitVec.extractLsb'_eq_self

theorem encI_f12_of_fields {w : Word} {f3 : BitVec 3} {op : BitVec 7}
    (hop : opcode w = op) (h3 : funct3 w = f3) : encI (f12 w) (rs1 w) f3 (rd w) op = w := by
  subst hop h3
  unfold encI f12 rs1 funct3 rd opcode
  iterate 4 rw [BitVec.extractLsb'_append_extractLsb'_eq_extractLsb' (by rfl)]
  exact BitVec.extractLsb'_eq_self

theorem rawI_eq_f12 (w : Word) : rawI w = f12 w := by
  unfold rawI g31 g30_25 g24_21 g20
  iterate 3 rw [BitVec.extractLsb'_append_extractLsb'_eq_extractLsb' (by rfl)]
  rfl

theorem encI_of_fields {w : Word} {f3 : BitVec 3} {op : BitVec 7}
    (hop : opcode w = op) (h3 : funct3 w = f3) : encI (rawI w) (rs1 w) f3 (rd w) op = w := by
  rw [rawI_eq_f12, encI_f12_of_fields hop h3]

theorem rawS_eq_funct7_rd (w : Word) : rawS w = funct7 w ++ rd w := by
  apply BitVec.eq_of_getLsbD_eq
  intro i hi
  simp only [rawS, g31, g30_25, g11_8, g7, funct7, rd, BitVec.getLsbD_append, BitVec.getLsbD_extractLsb']
  interval_cases i <;> rfl

theorem encS_of_fields {w : Word} {f3 : BitVec 3} (hop : opcode w = 0b0100011#7) (h3 : funct3 w = f3) :
    encS (rawS w) (rs2 w) (rs1 w) f3 = w := by
  unfold encS
  rw [rawS_eq_funct7_rd, BitVec.extractLsb'_append_eq_left, BitVec.extractLsb'_append_eq_right]
  exact encR_of_fields hop h3 rfl

theorem encB_of_fields {w : Word} {f3 : BitVec 3} (hop : opcode w = 0b1100011#7) (h3 : funct3 w = f3) :
    encB (rawB w) (rs2 w) (rs1 w) f3 = w := by
  rw [encB, ← hop, ← h3]
  apply BitVec.eq_of_getLsbD_eq
  intro i hi
  simp only [rawB, g31, g7, g30_25, g11_8, rs2, rs1, funct3, opcode, BitVec.getLsbD_append, BitVec.getLsbD_extractLsb']
  interval_cases i <;> rfl

theorem encU_of_fields {w : Word} {op : BitVec 7} (hop : opcode w = op) : encU (immU w) (rd w) op = w := by
  subst hop
  rw [encU, immU, BitVec.extractLsb'_append_eq_left]
  unfold rd opcode
  iterate 2 rw [BitVec.extractLsb'_append_extractLsb'_eq_extractLsb' (by rfl)]
  exact BitVec.extractLsb'_eq_self

theorem encJ_of_fields {w : Word} (hop : opcode w = 0b1101111#7) : encJ (rawJ w) (rd w) = w := by
  rw [encJ, ← hop]
  apply BitVec.eq_of_getLsbD_eq
  intro i hi
  simp only [rawJ, g31, g19_12, g20, g30_25, g24_21, rd, opcode, BitVec.getLsbD_append, BitVec.getLsbD_extractLsb']
  interval_cases i <;> rfl

theorem encM_of_fields {w : Word} {f3 : BitVec 3} (hop : opcode w = 0b0001111#7) (h3 : funct3 w = f3) :
    encM (w.extractLsb' 15 17) f3 (rd w) = w := by
  rw [encM, ← hop, ← h3]
  unfold funct3 rd opcode
  iterate 3 rw [BitVec.extractLsb'_append_extractLsb'_eq_extractLsb' (by rfl)]
  exact BitVec.extractLsb'_eq_self

/-- The six words without operands: every field of the I layout is compared (R520). -/
theorem word_of_system_fields {w : Word} {a : BitVec 12} (hop : opcode w = 0b1110011) (h3 : funct3 w = 0b000)
    (h0 : rd w = 0 ∧ rs1 w = 0) (ha : f12 w = a) : encI a 0 0b000 0 0b1110011 = w := by
  obtain ⟨hrd, hrs1⟩ := h0
  rw [← encI_f12_of_fields hop h3, ha, hrd, hrs1]

/-! The immediates the decoder reads have their low bits zero (R305 to R307). -/

@[simp] theorem immUOk_immU (w : Word) : immUOk (immU w) = true :=
  beq_iff_eq.mpr BitVec.extractLsb'_append_eq_right

@[simp] theorem immBOk_rawB (w : Word) : immBOk (rawB w) = true :=
  beq_iff_eq.mpr BitVec.extractLsb'_append_eq_right

@[simp] theorem immJOk_rawJ (w : Word) : immJOk (rawJ w) = true :=
  beq_iff_eq.mpr BitVec.extractLsb'_append_eq_right

/-! The reference's dispatches, said as the decoder's comparisons of the same fields. -/

theorem refBranch_eq_ite (p : Params) (w : Word) : refBranch p w =
    if funct3 w = 0b000 then refBr p w "beq" else if funct3 w = 0b001 then refBr p w "bne"
    else if funct3 w = 0b100 then refBr p w "blt" else if funct3 w = 0b101 then refBr p w "bge"
    else if funct3 w = 0b110 then refBr p w "bltu" else if funct3 w = 0b111 then refBr p w "bgeu"
    else .noMatch w := by
  simp only [refBranch, ← BitVec.toNat_inj]
  split <;> simp_all

theorem refLoad_eq_ite (p : Params) (w : Word) : refLoad p w =
    if funct3 w = 0b000 then refLd p w "lb" else if funct3 w = 0b001 then refLd p w "lh"
    else if funct3 w = 0b010 then refLd p w "lw" else if funct3 w = 0b100 then refLd p w "lbu"
    else if funct3 w = 0b101 then refLd p w "lhu" else .noMatch w := by
  simp only [refLoad, ← BitVec.toNat_inj]
  split <;> simp_all

theorem refStore_eq_ite (p : Params) (w : Word) : refStore p w =
    if funct3 w = 0b000 then refSd p w "sb" else if funct3 w = 0b001 then refSd p w "sh"
    else if funct3 w = 0b010 then refSd p w "sw" else .noMatch w := by
  simp only [refStore, ← BitVec.toNat_inj]
  split <;> simp_all

theorem refOpImm_eq_ite (p : Params) (w : Word) : refOpImm p w =
    if funct3 w = 0b000 then refAlui p w "addi" else if funct3 w = 0b010 then refAlui p w "slti"
    else if funct3 w = 0b011 then refAlui p w "sltiu" else if funct3 w = 0b100 then refAlui p w "xori"
    else if funct3 w = 0b110 then refAlui p w "ori" else if funct3 w = 0b111 then refAlui p w "andi"
    else if funct3 w = 0b001 then refShi p w "slli" else if funct7 w = 0b0000000 then refShi p w "srli"
    else if funct7 w = 0b0100000 then refShi p w "srai" else .noMatch w := by
  simp only [refOpImm, ← BitVec.toNat_inj]
  split <;> try split
  all_goals simp_all

theorem pick_eq_ite (a b c d e f g h : String) (f3 : BitVec 3) : pick [a, b, c, d, e, f, g, h] f3 =
    if f3 = 0b000 then a else if f3 = 0b001 then b else if f3 = 0b010 then c else if f3 = 0b011 then d
    else if f3 = 0b100 then e else if f3 = 0b101 then f else if f3 = 0b110 then g else h := by
  obtain ⟨n, hn⟩ := f3
  interval_cases n <;> rfl

theorem refOp_eq_ite (p : Params) (w : Word) : refOp p w =
    if funct7 w = 0b0000000 then
      refRr p w (pick ["add", "sll", "slt", "sltu", "xor", "srl", "or", "and"] (funct3 w))
    else if funct7 w = 0b0000001 then
      refRr p w (pick ["mul", "mulh", "mulhsu", "mulhu", "div", "divu", "rem", "remu"] (funct3 w))
    else if funct7 w = 0b0100000 then
      if funct3 w = 0b000 then refRr p w "sub" else if funct3 w = 0b101 then refRr p w "sra" else .noMatch w
    else .noMatch w := by
  simp only [refOp, ← BitVec.toNat_inj]
  split <;> try split
  all_goals simp_all

theorem refMiscMem_eq_ite (p : Params) (w : Word) : refMiscMem p w =
    if funct3 w = 0b000 then textOf p "fence" [] else if funct3 w = 0b001 then textOf p "fence.i" []
    else .noMatch w := by
  simp only [refMiscMem, ← BitVec.toNat_inj]
  split <;> simp_all

theorem refPriv_eq_ite (p : Params) (w : Word) : refPriv w =
    if f12 w = 0x000 then textOf p "ecall" [] else if f12 w = 0x001 then textOf p "ebreak" []
    else if f12 w = 0x002 then textOf p "uret" [] else if f12 w = 0x102 then textOf p "sret" []
    else if f12 w = 0x302 then textOf p "mret" [] else if f12 w = 0x105 then textOf p "wfi" []
    else .noMatch w := by
  simp only [refPriv, ← BitVec.toNat_inj, textOf, render_no_operands]
  split <;> simp_all

theorem refSystem_eq_ite (p : Params) (w : Word) : refSystem p w =
    if funct3 w = 0b000 then if rd w = 0 ∧ rs1 w = 0 then refPriv w else .noMatch w
    else if funct3 w = 0b001 then refCsrr p w "csrrw" else if funct3 w = 0b010 then refCsrr p w "csrrs"
    else if funct3 w = 0b011 then refCsrr p w "csrrc" else if funct3 w = 0b101 then refCsri p w "csrrwi"
    else if funct3 w = 0b110 then refCsri p w "csrrsi" else if funct3 w = 0b111 then refCsri p w "csrrci"
    else .noMatch w := by
  simp only [refSystem, ← BitVec.toNat_inj (x := funct3 w)]
  split <;> simp_all

theorem decode_eq_ite (p : Params) (w : Word) : decode p w =
    if opcode w = 0b0110111 then refLui p w else if opcode w = 0b0010111 then refAuipc p w
    else if opcode w = 0b1101111 then refJal p w else if opcode w = 0b1100111 then refJalrFam p w
    else if opcode w = 0b1100011 then refBranch p w else if opcode w = 0b0000011 then refLoad p w
    else if opcode w = 0b0100011 then refStore p w else if opcode w = 0b0010011 then refOpImm p w
    else if opcode w = 0b0110011 then refOp p w else if opcode w = 0b0001111 then refMiscMem p w
    else if opcode w = 0b1110011 then refSystem p w else .noMatch w := by
  simp only [decode, ← BitVec.toNat_inj]
  split <;> simp_all

/-! The two readings of a word, side by side. -/

/-- What the decoder and the reference make of `w`, in agreement: either an instruction whose word is
`w` and whose event presents the reference's text, or no match from both (R106, R321, R330). -/
inductive Agree (w : Word) : Except Reject Instr → (Params → DecodeResult) → Prop where
  | text {i : Instr} {mn : String} {ops : List Operand} (hwf : i.wellFormed = true) (henc : encode i = w)
      (hexec : ∀ s, exec i s = takeText (encode i) mn ops s) : Agree w (.ok i) (textOf · mn ops)
  | noMatch {r : Reject} : Agree w (.error r) fun _ => .noMatch w

/-- One comparison made by both sides. -/
theorem Agree.ite {w : Word} {c : Prop} [Decidable c] {x y : Except Reject Instr} {t u : Params → DecodeResult}
    (hpos : c → Agree w x t) (hneg : ¬ c → Agree w y u) :
    Agree w (if c then x else y) fun p => if c then t p else u p := by
  by_cases h : c
  · simpa [h] using hpos h
  · simpa [h] using hneg h

theorem agree_jalr {w : Word} (hop : opcode w = 0b1100111) : Agree w (decodeJalr w) (refJalrFam · w) := by
  unfold decodeJalr refJalrFam
  exact .ite (fun h3 => .text rfl (encI_of_fields hop h3) fun _ => rfl) fun _ => .noMatch

theorem agree_branch {w : Word} (hop : opcode w = 0b1100011) : Agree w (decodeBranch w) (refBranch · w) := by
  simp only [refBranch_eq_ite]
  unfold decodeBranch
  iterate 6 refine .ite (fun h3 => .text (immBOk_rawB w) (encB_of_fields hop h3) fun _ => rfl) fun _ => ?_
  exact .noMatch

theorem agree_load {w : Word} (hop : opcode w = 0b0000011) : Agree w (decodeLoad w) (refLoad · w) := by
  simp only [refLoad_eq_ite]
  unfold decodeLoad
  iterate 5 refine .ite (fun h3 => .text rfl (encI_of_fields hop h3) fun _ => rfl) fun _ => ?_
  exact .noMatch

theorem agree_store {w : Word} (hop : opcode w = 0b0100011) : Agree w (decodeStore w) (refStore · w) := by
  simp only [refStore_eq_ite]
  unfold decodeStore
  iterate 3 refine .ite (fun h3 => .text rfl (encS_of_fields hop h3) fun _ => rfl) fun _ => ?_
  exact .noMatch

theorem agree_opImm {w : Word} (hop : opcode w = 0b0010011) : Agree w (decodeOpImm w) (refOpImm · w) := by
  simp only [refOpImm_eq_ite]
  unfold decodeOpImm
  iterate 6 refine .ite (fun h3 => .text rfl (encI_of_fields hop h3) fun _ => rfl) fun _ => ?_
  refine .ite (fun h3 => .text rfl (encR_of_fields hop h3 rfl) fun _ => rfl) fun _ => ?_
  -- `funct7` is compared at the one value of `funct3` left, 101 (R460)
  have h3 : funct3 w = 0b101 := by bv_omega
  iterate 2 refine .ite (fun h7 => .text rfl (encR_of_fields hop h3 h7) fun _ => rfl) fun _ => ?_
  exact .noMatch

theorem agree_op {w : Word} (hop : opcode w = 0b0110011) : Agree w (decodeOp w) (refOp · w) := by
  simp only [refOp_eq_ite, pick_eq_ite, apply_ite (refRr _ w)]
  unfold decodeOp
  iterate 2
    refine .ite (fun h7 => ?_) fun _ => ?_
    · iterate 7 refine .ite (fun h3 => .text rfl (encR_of_fields hop h3 h7) fun _ => rfl) fun _ => ?_
      have h3 : funct3 w = 0b111 := by bv_omega
      exact .text rfl (encR_of_fields hop h3 h7) fun _ => rfl
  refine .ite (fun h7 => ?_) fun _ => .noMatch
  iterate 2 refine .ite (fun h3 => .text rfl (encR_of_fields hop h3 h7) fun _ => rfl) fun _ => ?_
  exact .noMatch

theorem agree_miscMem {w : Word} (hop : opcode w = 0b0001111) : Agree w (decodeMiscMem w) (refMiscMem · w) := by
  simp only [refMiscMem_eq_ite]
  unfold decodeMiscMem
  iterate 2 refine .ite (fun h3 => .text rfl (encM_of_fields hop h3) fun _ => rfl) fun _ => ?_
  exact .noMatch

theorem agree_system {w : Word} (hop : opcode w = 0b1110011) : Agree w (decodeSystem w) (refSystem · w) := by
  simp only [refSystem_eq_ite]
  unfold decodeSystem
  refine .ite (fun h3 => .ite (fun h0 => ?_) fun _ => .noMatch) fun _ => ?_
  · rw [show (fun p : Params => refPriv w) = _ from funext fun p => refPriv_eq_ite p w]
    iterate 6 refine .ite (fun ha => .text rfl (word_of_system_fields hop h3 h0 ha) fun _ => rfl) fun _ => ?_
    exact .noMatch
  · iterate 6 refine .ite (fun h3 => .text rfl (encI_f12_of_fields hop h3) fun _ => rfl) fun _ => ?_
    exact .noMatch

/-- The instruction-by-instruction machine reads every word as the spec's `decode` does (R321). -/
theorem decodeWord_agrees_with_decode (w : Word) : Agree w (decodeWord w) (decode · w) := by
  simp only [decode_eq_ite]
  unfold decodeWord
  iterate 2 refine .ite (fun hop => .text (immUOk_immU w) (encU_of_fields hop) fun _ => rfl) fun _ => ?_
  refine .ite (fun hop => .text (immJOk_rawJ w) (encJ_of_fields hop) fun _ => rfl) fun _ => ?_
  exact .ite agree_jalr fun _ => .ite agree_branch fun _ => .ite agree_load fun _ => .ite agree_store fun _ =>
    .ite agree_opImm fun _ => .ite agree_op fun _ => .ite agree_miscMem fun _ => .ite agree_system fun _ => .noMatch

/-! What the agreement says of a word that decodes, and of one that does not. -/

theorem Agree.of_ok {w : Word} {i : Instr} {t : Params → DecodeResult} (h : Agree w (.ok i) t) :
    i.wellFormed = true ∧ encode i = w ∧ ∀ s, exec i s = .next (s.onNewWord w (t s.params)) := by
  cases h with
  | text hwf henc hexec => exact ⟨hwf, henc, fun s => by rw [hexec, henc]; rfl⟩

theorem Agree.of_error {w : Word} {r : Reject} {t : Params → DecodeResult} (h : Agree w (.error r) t) (p : Params) :
    t p = .noMatch w := by
  cases h with
  | noMatch => rfl

theorem decodeWord_ok {w : Word} {i : Instr} (h : decodeWord w = .ok i) :
    i.wellFormed = true ∧ encode i = w ∧ ∀ s, exec i s = .next (s.onNewWord w (decode s.params w)) :=
  (h ▸ decodeWord_agrees_with_decode w).of_ok

theorem decode_of_decodeWord_error {w : Word} {r : Reject} (h : decodeWord w = .error r) (p : Params) :
    decode p w = .noMatch w :=
  (h ▸ decodeWord_agrees_with_decode w).of_error p

end Sys2Proof.Proofs
end

section
/-! Proofs about a step and the cache: what a step answers, the cache invariant of R107, the order of
events (R102), and the realisation's registers (R104). -/

namespace Sys2Proof.Proofs
open Sys2Proof.Machine

/-! What a step answers, without an event and with one. -/

theorem step_of_no_event {s : State} (he : s.events = []) : step s = .next s := by
  simp [step, he]

theorem step_of_decodes {s : State} {w : Word} {rest : List Word} {i : Instr} (he : s.events = w :: rest)
    (hd : decodeWord w = .ok i) : step s = exec i (s.withEvents rest) := by
  simp [step, he, hd]

theorem step_of_event {s : State} {w : Word} {rest : List Word} (he : s.events = w :: rest) :
    step s = .next ((s.withEvents rest).onNewWord w (decode s.params w)) := by
  cases hd : decodeWord w with
  | ok i =>
    obtain ⟨-, -, hexec⟩ := decodeWord_ok hd
    rw [step_of_decodes he hd, hexec, State.withEvents_params]
  | error r =>
    rw [decode_of_decodeWord_error hd]
    simp [step, he, hd, takeNoMatch]

/-- The inversion of a step: either nothing waits and nothing changes, or the oldest event is taken and
the gate takes its word with the word's `decode`. -/
theorem step_cases {s t : State} (h : step s = .next t) :
    (s.events = [] ∧ t = s) ∨
    ∃ w rest, s.events = w :: rest ∧ t = (s.withEvents rest).onNewWord w (decode s.params w) := by
  cases he : s.events with
  | nil =>
    rw [step_of_no_event he] at h
    exact .inl ⟨rfl, (Host.Outcome.next.inj h).symm⟩
  | cons w rest =>
    rw [step_of_event he] at h
    exact .inr ⟨w, rest, rfl, (Host.Outcome.next.inj h).symm⟩

theorem exec_params {i : Instr} {s t : State} (h : exec i s = .next t) : t.params = s.params := by
  obtain ⟨mn, ops, hexec⟩ := exec_takes_its_word i s
  rw [hexec] at h
  obtain rfl := Host.Outcome.next.inj h
  exact State.onNewWord_params ..

theorem step_params {s t : State} (h : step s = .next t) : t.params = s.params := by
  obtain ⟨-, rfl⟩ | ⟨w, rest, -, rfl⟩ := step_cases h <;> rfl

/-! The gate when it holds the word, and the gate with the word's own `decode`. -/

theorem State.onNewWord_of_held {s : State} {w : Word} {cr : DecodeResult} (h : s.cache = .held w cr)
    (r : DecodeResult) : s.onNewWord w r = s := by
  rw [State.onNewWord, h, Cache.onNewWord_same, ← h, State.withCache_self]

/-- R106's two arms are the gate's step with `decode(w)`. -/
theorem gateSpec_eq_onNewWord (p : Params) (c : Cache) (w : Word) : gateSpec p c w = c.onNewWord w (decode p w) := by
  cases c <;> rfl

/-- A gate whose entry is sound holds `w` with `decode(w)` after the event of `w` (R107). -/
theorem Cache.onNewWord_of_sound {p : Params} {c : Cache} (hc : c.sound p) (w : Word) :
    c.onNewWord w (decode p w) = .held w (decode p w) := by
  obtain ⟨cr, rfl, h⟩ | ⟨-, h⟩ := Cache.onNewWord_cases c w (decode p w)
  · obtain rfl : cr = decode p w := hc
    exact h
  · exact h

theorem Inv_of_step {s t : State} (hs : s.Inv) (h : step s = .next t) : t.Inv := by
  obtain ⟨-, rfl⟩ | ⟨w, rest, -, rfl⟩ := step_cases h
  · exact hs
  · have hcache : s.cache.onNewWord w (decode s.params w) = .held w (decode s.params w) :=
      Cache.onNewWord_of_sound hs w
    simp [State.Inv, hcache, Cache.sound]

theorem Inv_present {s : State} (hs : s.Inv) (w : Word) : (s.present w).Inv := hs

/-- Settles O13: the step is the gate's step with `decode(w)`, because the decoder and the reference
agree on every word; the port follows which arm the gate takes. -/
theorem gateTakesEventWithItsDecode : Obligations.GateTakesEventWithItsDecode := by
  intro s w rest he
  rw [gateSpec_eq_onNewWord]
  refine ⟨step_of_event he, ?_, ?_⟩
  · rintro ⟨cr, hheld⟩
    rw [State.port, hheld, Cache.onNewWord_same]
  · intro hother
    obtain ⟨cr, hheld, -⟩ | ⟨-, h⟩ := Cache.onNewWord_cases s.cache w (decode s.params w)
    · exact absurd hheld (hother cr)
    · rw [h, Cache.port]

/-- Settles O14: by the inversion of a step; presenting a word leaves the cache and the parameters. -/
theorem heldResultIsDecodeOfHeldWord : Obligations.HeldResultIsDecodeOfHeldWord :=
  ⟨fun _ _ => Inv_of_step, fun _ w hs => Inv_present hs w⟩

/-- Settles O16: the invariant makes both arms of the gate leave `w` with `decode(w)`. -/
theorem portPresentsDecodeAfterEvent : Obligations.PortPresentsDecodeAfterEvent := by
  intro s w rest hs he
  have hcache := Cache.onNewWord_of_sound hs w
  refine ⟨_, step_of_event he, ?_, hcache⟩
  rw [State.port, State.onNewWord_cache, State.withEvents_cache, hcache, Cache.port]

/-- Settles O19: a step takes the oldest event, and presenting writes behind it. -/
theorem eventsAreTakenInPresentedOrder : Obligations.EventsAreTakenInPresentedOrder := by
  intro s t w hne h
  obtain ⟨he, -⟩ | ⟨v, rest, he, rfl⟩ := step_cases h
  · exact absurd he hne
  · have hpresent : (s.present w).events = v :: (rest ++ [w]) := by simp [he]
    rw [step_of_event hpresent]
    rfl

/-- Settles O20: the second event of the word finds it in the cache. -/
theorem repeatedWordIsHeld : Obligations.RepeatedWordIsHeld := by
  intro s w rest he
  refine ⟨_, step_of_event he, rfl, ?_⟩
  obtain ⟨cr, hheld⟩ := Cache.onNewWord_holds s.cache w (decode s.params w)
  rw [step_of_event (rest := rest) rfl, State.onNewWord_of_held hheld]
  rfl

/-- Settles O23: no step and no instruction writes the parameters, so every address keeps its name. -/
theorem parametersAreNeverWritten : Obligations.ParametersAreNeverWritten :=
  ⟨fun _ _ h => ⟨step_params h, fun _ => by rw [step_params h]⟩, fun _ _ _ => exec_params,
    State.present_params⟩

/-- Settles O11: the step's own equation; the decoder gives well-formed instructions only. -/
theorem stepRunsTheDecodedInstruction : Obligations.StepRunsTheDecodedInstruction := by
  intro s w rest i he hd
  obtain ⟨hwf, -, -⟩ := decodeWord_ok hd
  exact ⟨step_of_decodes he hd, hwf⟩

/-- Settles O12: the step's equation for an empty list of events. -/
theorem stepWithoutEventChangesNothing : Obligations.StepWithoutEventChangesNothing :=
  fun _ => step_of_no_event

/-- Settles O15: the cache of a new instance is `Idle`, which is sound. -/
theorem resetMeetsCacheInvariant : Obligations.ResetMeetsCacheInvariant := by
  refine ⟨trivial, fun p n s hs => ?_⟩
  obtain rfl := List.eq_of_mem_replicate hs
  trivial

/-! The registers of a realisation. -/

theorem Registers.onNewWord_of_invalid {g : Registers} (hg : g.valid = false) (w : Word) (r : DecodeResult) :
    g.onNewWord w r = { valid := true, word := w, result := .presents r } := by
  simp [Registers.onNewWord, hg]

theorem Registers.port_of_invalid {g : Registers} (hg : g.valid = false) : g.port = .idle := by
  simp [Registers.port, hg]

theorem Registers.holds_onNewWord {g : Registers} {c : Cache} (h : g.holds c) (w : Word) (r : DecodeResult) :
    (g.onNewWord w r).holds (c.onNewWord w r) := by
  cases c with
  | idle =>
    rw [Registers.onNewWord_of_invalid h]
    exact ⟨rfl, rfl, rfl⟩
  | held cw cr =>
    obtain ⟨hvalid, rfl, hresult⟩ := h
    by_cases hw : g.word = w
    · simp [Registers.onNewWord, Cache.onNewWord, Registers.holds, hw, hvalid, hresult]
    · simp [Registers.onNewWord, Cache.onNewWord, Registers.holds, hw]

theorem Registers.port_and_valid_of_holds {g : Registers} {c : Cache} (h : g.holds c) :
    g.port = c.port ∧ g.valid = c.valid := by
  cases c with
  | idle => exact ⟨Registers.port_of_invalid h, h⟩
  | held cw cr =>
    obtain ⟨hvalid, -, hresult⟩ := h
    exact ⟨by simp [Registers.port, Cache.port, hvalid, hresult], hvalid⟩

/-- Settles O27: the registers follow the cache through both arms of the gate, and while the valid bit
is 0 neither the event nor the port reads the other two. -/
theorem registersRefineTheCacheGate : Obligations.RegistersRefineTheCacheGate := by
  refine ⟨rfl, fun g c w r h => ⟨Registers.holds_onNewWord h w r, Registers.port_and_valid_of_holds h⟩, ?_⟩
  intro g h w r hg hh
  rw [Registers.onNewWord_of_invalid hg, Registers.onNewWord_of_invalid hh, Registers.port_of_invalid hg,
    Registers.port_of_invalid hh]
  exact ⟨rfl, rfl⟩

end Sys2Proof.Proofs
end

section
/-! Proofs about the CSR names: the resolver (R122), and the default table (R120, R121), in which no
address and no name stands twice. -/

namespace Sys2Proof.Proofs
open Sys2Proof.Machine

/-! The resolver: the table's name, or the numeral. -/

theorem csrname_of_some {p : Params} {a : CsrAddr} {s : String} (h : csrNames p a = some s) : csrname p a = s := by
  simp [csrname, h]

theorem csrname_of_none {p : Params} {a : CsrAddr} (h : csrNames p a = none) :
    csrname p a = "$0x" ++ hex a.toNat 3 := by
  simp [csrname, h]

/-- Settles O28: three hexadecimal digits hold every 12-bit address, and read back as it. -/
theorem csrNameResolution : Obligations.CsrNameResolution := by
  refine ⟨fun _ _ _ => csrname_of_some, fun p a h => ?_, fun _ => csrname_of_some, fun p h => ?_⟩
  · exact ⟨hexDigits 3 a.toNat, csrname_of_none h, hexDigits_length 3 a.toNat, numeralValue_hexDigits a.isLt⟩
  · rw [csrname_of_none h]
    decide

/-! A table read at an entry's address, and at an address it does not list. -/

theorem lookup_of_mem_of_nodup {α β : Type} [BEq α] [LawfulBEq α] {l : List (α × β)} (hl : (l.map Prod.fst).Nodup)
    {e : α × β} (he : e ∈ l) : l.lookup e.1 = some e.2 := by
  obtain ⟨l₁, l₂, rfl⟩ := List.append_of_mem he
  refine List.lookup_eq_some_iff.mpr ⟨l₁, l₂, rfl, fun q hq => ?_⟩
  rw [List.map_append, List.nodup_append] at hl
  obtain ⟨-, -, hdisj⟩ := hl
  exact bne_iff_ne.mpr (hdisj q.1 (List.mem_map_of_mem hq) e.1 (by simp)).symm

theorem csrNames_of_mem {p : Params} (hp : (p.csrNames.map Prod.fst).Nodup) {e : CsrAddr × String}
    (he : e ∈ p.csrNames) : csrNames p e.1 = some e.2 :=
  lookup_of_mem_of_nodup hp he

theorem csrNames_of_unlisted {p : Params} {a : CsrAddr} (h : ∀ e ∈ p.csrNames, e.1 ≠ a) : csrNames p a = none :=
  List.lookup_eq_none_iff.mpr fun e he => bne_iff_ne.mpr (h e he).symm

theorem mem_csrFamily {base first count n : Nat} (pre suf : String) (hn : n ∈ List.range' first count) :
    (BitVec.ofNat 12 (base + n), pre ++ decNat n ++ suf) ∈ csrFamily base pre suf first count :=
  List.mem_map_of_mem hn

/-! The default table. -/

set_option maxRecDepth 16000 in
theorem defaultCsrNames_addresses_nodup : (defaultCsrNames.map Prod.fst).Nodup := by decide

set_option maxRecDepth 16000 in
theorem defaultCsrNames_names_nodup : (defaultCsrNames.map Prod.snd).Nodup := by decide

theorem csrNames_default_of_mem {e : CsrAddr × String} (he : e ∈ defaultCsrNames) :
    csrNames defaultParams e.1 = some e.2 :=
  csrNames_of_mem defaultCsrNames_addresses_nodup he

theorem csrNames_default_of_unlisted {a : CsrAddr} (h : ∀ e ∈ defaultCsrNames, e.1 ≠ a) :
    csrNames defaultParams a = none :=
  csrNames_of_unlisted h

theorem mem_defaultCsrNames {e : CsrAddr × String} :
    e ∈ defaultCsrNames ↔ e ∈ csrFixed ∨ e ∈ csrPmp ∨ e ∈ csrGenerated := by
  simp [defaultCsrNames]

/-- A run of indexes 3 to 31 that stands in the table is one of R120's families: its names are found at
their addresses, and, as no name stands twice, nowhere else. -/
theorem hasFamily_default {base : Nat} {pre suf : String}
    (hsub : ∀ e ∈ csrFamily base pre suf 3 29, e ∈ csrGenerated) : hasFamily defaultParams base pre suf := by
  intro n hn
  have hmem : (BitVec.ofNat 12 (base + n), pre ++ decNat n ++ suf) ∈ defaultCsrNames :=
    mem_defaultCsrNames.mpr (.inr (.inr (hsub _ (mem_csrFamily pre suf hn))))
  refine ⟨csrNames_default_of_mem hmem, fun e he hname => ?_⟩
  exact congrArg Prod.fst (List.inj_on_of_nodup_map defaultCsrNames_names_nodup he hmem hname)

set_option maxRecDepth 4000 in
/-- Settles O29: the five families are runs of the table. -/
theorem defaultCsrTableIsAdmissible : Obligations.DefaultCsrTableIsAdmissible := by
  have hmip : ((0x344, "mip") : CsrAddr × String) ∈ defaultCsrNames :=
    mem_defaultCsrNames.mpr (.inl (by decide))
  have hgap : ∀ e ∈ defaultCsrNames, e.1 ≠ 0x7ff := by decide
  refine ⟨csrNames_default_of_mem hmip, csrNames_default_of_unlisted hgap, ?_, ?_, ?_, ?_, ?_⟩ <;>
    refine hasFamily_default fun e he => ?_ <;> simp [csrGenerated, he]

theorem csrname_default_of_mem {e : CsrAddr × String} (he : e ∈ defaultCsrNames) :
    csrname defaultParams e.1 = e.2 :=
  csrname_of_some (csrNames_default_of_mem he)

theorem csrname_default_pmp {base count n : Nat} {pre : String} (hsub : ∀ e ∈ csrFamily base pre "" 0 count, e ∈ csrPmp)
    (hn : n ∈ List.range count) : csrname defaultParams (BitVec.ofNat 12 (base + n)) = pre ++ decNat n := by
  have hmem := hsub _ (mem_csrFamily pre "" (List.range_eq_range' ▸ hn))
  simpa using csrname_default_of_mem (mem_defaultCsrNames.mpr (.inr (.inl hmem)))

/-- Settles O30: the parts are counted and the addresses compared; as no address stands twice, every
entry's name is found at its address. -/
theorem defaultCsrTableHas223Entries : Obligations.DefaultCsrTableHas223Entries := by
  refine ⟨rfl, rfl, rfl, rfl, defaultCsrNames_addresses_nodup, ?cfg, ?addr, ?fixed,
    fun _ => csrname_default_of_mem, fun _ => csrNames_default_of_unlisted⟩
  case cfg => exact fun n => csrname_default_pmp fun e he => List.mem_append_left _ he
  case addr => exact fun n => csrname_default_pmp fun e he => List.mem_append_right _ he
  case fixed =>
    intro e he
    have hfixed : e ∈ csrFixed := by
      revert e
      decide
    exact csrNames_default_of_mem (mem_defaultCsrNames.mpr (.inl hfixed))

end Sys2Proof.Proofs
end

section
/-! Proofs about a host's byte stream (R201, R300): the word of four bytes, and the stream's first
instruction. -/

namespace Sys2Proof.Proofs
open Sys2Proof.Machine

/-- Joining the bytes most significant first is R201's expression. -/
theorem wordOfBytes_eq_or_shiftLeft (b0 b1 b2 b3 : Byte) :
    wordOfBytes b0 b1 b2 b3 = (zext b0 ||| zext b1 <<< 8 ||| zext b2 <<< 16 ||| zext b3 <<< 24) :=
  calc wordOfBytes b0 b1 b2 b3
    _ = (b3 ++ b2 ++ b1 ++ b0).setWidth 32 := (BitVec.setWidth_eq _).symm
    _ = zext b3 <<< 24 ||| zext b2 <<< 16 ||| zext b1 <<< 8 ||| zext b0 :=
      BitVec.setWidth_append_append_append_eq_shiftLeft_setWidth_or
    _ = zext b0 ||| zext b1 <<< 8 ||| zext b2 <<< 16 ||| zext b3 <<< 24 := by
      rw [BitVec.or_comm, BitVec.or_comm _ (zext b1 <<< 8), BitVec.or_comm (zext b3 <<< 24), ← BitVec.or_assoc,
        ← BitVec.or_assoc]

theorem decodeBytes_of_decodes {b0 b1 b2 b3 : Byte} {i : Instr} (hd : decodeWord (wordOfBytes b0 b1 b2 b3) = .ok i)
    (rest : List Byte) : decodeBytes (b0 :: b1 :: b2 :: b3 :: rest) = .ok (i, rest) := by
  simp [decodeBytes, hd]

/-- Settles O10: the value, and the stream's first instruction with the bytes after it. -/
theorem byteAssemblyIsLittleEndian : Obligations.ByteAssemblyIsLittleEndian :=
  fun b0 b1 b2 b3 rest => ⟨wordOfBytes_eq_or_shiftLeft b0 b1 b2 b3, fun _ hd => decodeBytes_of_decodes hd rest⟩

end Sys2Proof.Proofs
end

section
/-! Proofs about the encoder: the fields of a word put together in a layout of R302 are the parts it was put
together from, so decoding undoes encoding. -/

namespace Sys2Proof.Proofs
open Sys2Proof.Machine Sys2Proof.Extractor

/-! A field of two joined words lies in the upper one or in the lower one. The width of the joined word is
written as a numeral in the layouts, so it is kept out of the pattern `simp` matches. -/

@[simp] theorem extractLsb'_append_of_le {v w s l : Nat} {x : BitVec v} {y : BitVec w} (h : w ≤ s) :
    (no_index (x ++ y)).extractLsb' s l = x.extractLsb' (s - w) l :=
  BitVec.extractLsb'_append_eq_of_le h

@[simp] theorem extractLsb'_append_of_add_le {v w s l : Nat} {x : BitVec v} {y : BitVec w} (h : s + l ≤ w) :
    (no_index (x ++ y)).extractLsb' s l = y.extractLsb' s l :=
  BitVec.extractLsb'_append_eq_of_add_le h

/-! The fields of each layout of R302. -/

section Layouts
variable (f7 : BitVec 7) (r2 r1 r : RegNum) (f3 : BitVec 3) (op : BitVec 7)

@[simp] theorem fields_encR :
    opcode (encR f7 r2 r1 f3 r op) = op ∧ funct3 (encR f7 r2 r1 f3 r op) = f3 ∧
    funct7 (encR f7 r2 r1 f3 r op) = f7 ∧ rd (encR f7 r2 r1 f3 r op) = r ∧
    rs1 (encR f7 r2 r1 f3 r op) = r1 ∧ rs2 (encR f7 r2 r1 f3 r op) = r2 := by
  simp [encR, opcode, funct3, funct7, rd, rs1, rs2]

@[simp] theorem fields_encI (imm : BitVec 12) :
    opcode (encI imm r1 f3 r op) = op ∧ funct3 (encI imm r1 f3 r op) = f3 ∧ rd (encI imm r1 f3 r op) = r ∧
    rs1 (encI imm r1 f3 r op) = r1 ∧ f12 (encI imm r1 f3 r op) = imm := by
  simp [encI, opcode, funct3, rd, rs1, f12]

@[simp] theorem fields_encS (imm : BitVec 12) :
    opcode (encS imm r2 r1 f3) = 0b0100011 ∧ funct3 (encS imm r2 r1 f3) = f3 ∧ rs1 (encS imm r2 r1 f3) = r1 ∧
    rs2 (encS imm r2 r1 f3) = r2 := by
  simp [encS, opcode, funct3, rs1, rs2]

@[simp] theorem fields_encB (imm : BitVec 13) :
    opcode (encB imm r2 r1 f3) = 0b1100011 ∧ funct3 (encB imm r2 r1 f3) = f3 ∧ rs1 (encB imm r2 r1 f3) = r1 ∧
    rs2 (encB imm r2 r1 f3) = r2 := by
  simp [encB, opcode, funct3, rs1, rs2]

@[simp] theorem fields_encU (imm : Word) : opcode (encU imm r op) = op ∧ rd (encU imm r op) = r := by
  simp [encU, opcode, rd]

@[simp] theorem fields_encJ (imm : BitVec 21) : opcode (encJ imm r) = 0b1101111 ∧ rd (encJ imm r) = r := by
  simp [encJ, opcode, rd]

@[simp] theorem fields_encM (hi : BitVec 17) (lo : BitVec 5) :
    opcode (encM hi f3 lo) = 0b0001111 ∧ funct3 (encM hi f3 lo) = f3 ∧ rd (encM hi f3 lo) = lo ∧
    (encM hi f3 lo).extractLsb' 15 17 = hi := by
  simp [encM, opcode, funct3, rd]

/-- Bits 30:25 and 24:21 lie side by side in the word too (R302, R307). -/
theorem rawJ_eq_append (w : Word) : rawJ w = g31 w ++ g19_12 w ++ g20 w ++ w.extractLsb' 21 10 ++ 0#1 := by
  apply BitVec.eq_of_getLsbD_eq
  intro i hi
  simp only [rawJ, g31, g19_12, g20, g30_25, g24_21, BitVec.getLsbD_append, BitVec.getLsbD_extractLsb']
  interval_cases i <;> rfl

/-! The immediates read back; those whose low bits the layout has no place for, when these are zero (R303 to R307). -/

@[simp] theorem rawI_encI (imm : BitVec 12) : rawI (encI imm r1 f3 r op) = imm := by
  simp [rawI_eq_f12]

@[simp] theorem rawS_encS (imm : BitVec 12) : rawS (encS imm r2 r1 f3) = imm := by
  have hparts : rawS (encS imm r2 r1 f3) = imm.extractLsb' 5 7 ++ imm.extractLsb' 0 5 := by
    simp [rawS_eq_funct7_rd, encS, funct7, rd]
  rw [hparts, BitVec.extractLsb'_append_extractLsb'_eq_extractLsb' (by rfl), BitVec.extractLsb'_eq_self]

theorem rawB_encB {imm : BitVec 13} (h : immBOk imm = true) : rawB (encB imm r2 r1 f3) = imm := by
  have hlow : 0#1 = imm.extractLsb' 0 1 := (beq_iff_eq.mp h).symm
  have hparts : rawB (encB imm r2 r1 f3) = imm.extractLsb' 12 1 ++ imm.extractLsb' 11 1 ++ imm.extractLsb' 5 6 ++
      imm.extractLsb' 1 4 ++ imm.extractLsb' 0 1 := by
    simp [rawB, g31, g7, g30_25, g11_8, encB, hlow]
  rw [hparts]
  iterate 4 rw [BitVec.extractLsb'_append_extractLsb'_eq_extractLsb' (by rfl)]
  exact BitVec.extractLsb'_eq_self

theorem immU_encU {imm : Word} (h : immUOk imm = true) : immU (encU imm r op) = imm := by
  have hlow : 0#12 = imm.extractLsb' 0 12 := (beq_iff_eq.mp h).symm
  have hparts : immU (encU imm r op) = imm.extractLsb' 12 20 ++ imm.extractLsb' 0 12 := by
    simp [immU, encU, hlow]
  rw [hparts, BitVec.extractLsb'_append_extractLsb'_eq_extractLsb' (by rfl), BitVec.extractLsb'_eq_self]

theorem rawJ_encJ {imm : BitVec 21} (h : immJOk imm = true) : rawJ (encJ imm r) = imm := by
  have hlow : 0#1 = imm.extractLsb' 0 1 := (beq_iff_eq.mp h).symm
  have hparts : rawJ (encJ imm r) = imm.extractLsb' 20 1 ++ imm.extractLsb' 12 8 ++ imm.extractLsb' 11 1 ++
      imm.extractLsb' 1 10 ++ imm.extractLsb' 0 1 := by
    simp [rawJ_eq_append, g31, g19_12, g20, encJ, hlow]
  rw [hparts]
  iterate 4 rw [BitVec.extractLsb'_append_extractLsb'_eq_extractLsb' (by rfl)]
  exact BitVec.extractLsb'_eq_self

end Layouts

/-! The opcode map of R320, one equation for each family. -/

section Opcodes
variable {w : Word}

theorem decodeWord_of_jalr (h : opcode w = 0b1100111) : decodeWord w = decodeJalr w := by simp [decodeWord, h]
theorem decodeWord_of_branch (h : opcode w = 0b1100011) : decodeWord w = decodeBranch w := by simp [decodeWord, h]
theorem decodeWord_of_load (h : opcode w = 0b0000011) : decodeWord w = decodeLoad w := by simp [decodeWord, h]
theorem decodeWord_of_store (h : opcode w = 0b0100011) : decodeWord w = decodeStore w := by simp [decodeWord, h]
theorem decodeWord_of_opImm (h : opcode w = 0b0010011) : decodeWord w = decodeOpImm w := by simp [decodeWord, h]
theorem decodeWord_of_op (h : opcode w = 0b0110011) : decodeWord w = decodeOp w := by simp [decodeWord, h]
theorem decodeWord_of_miscMem (h : opcode w = 0b0001111) : decodeWord w = decodeMiscMem w := by simp [decodeWord, h]
theorem decodeWord_of_system (h : opcode w = 0b1110011) : decodeWord w = decodeSystem w := by simp [decodeWord, h]

end Opcodes

/-- Each instruction meets its own family's dispatch with its own key, and its operands are read back. -/
theorem decodeWord_encode {i : Instr} (hwf : i.wellFormed = true) : decodeWord (encode i) = .ok i := by
  cases i with
  | lui | auipc => simp [encode, decodeWord, immU_encU _ _ hwf]
  | jal => simp [encode, decodeWord, rawJ_encJ _ hwf]
  | jalr => simp [encode, decodeWord_of_jalr, decodeJalr]
  | beq | bne | blt | bge | bltu | bgeu =>
    simp [encode, decodeWord_of_branch, decodeBranch, rawB_encB _ _ _ hwf]
  | lb | lh | lw | lbu | lhu => simp [encode, decodeWord_of_load, decodeLoad]
  | sb | sh | sw => simp [encode, decodeWord_of_store, decodeStore]
  | addi | slti | sltiu | xori | ori | andi | slli | srli | srai =>
    simp [encode, decodeWord_of_opImm, decodeOpImm, shamt]
  | add | sub | sll | slt | sltu | xor | srl | sra | or | and | mul | mulh | mulhsu | mulhu | div | divu | rem | remu =>
    simp [encode, decodeWord_of_op, decodeOp]
  | fence | fenceI => simp [encode, decodeWord_of_miscMem, decodeMiscMem]
  | ecall | ebreak | uret | sret | mret | wfi => rfl
  | csrrw | csrrs | csrrc | csrrwi | csrrsi | csrrci => simp [encode, decodeWord_of_system, decodeSystem, csr]

/-- Settles O2: every layout's fields are the parts it was put together from. -/
theorem decodeOfEncodeIsTheInstruction : Obligations.DecodeOfEncodeIsTheInstruction :=
  fun _ => decodeWord_encode

/-- Settles O3: a word's own fields put back in its layout are the word. -/
theorem encodeOfDecodeIsTheWord : Obligations.EncodeOfDecodeIsTheWord := by
  intro w i h
  obtain ⟨hwf, henc, -⟩ := decodeWord_ok h
  exact ⟨hwf, henc⟩

/-! The rows of the opcode table (R323): a word with a row's values in the compared bits has the row's
fields, and these are the keys of the dispatch. -/

/-- The encoder's word has its row's values, by the layout. -/
theorem encode_and_mask (i : Instr) : encode i &&& (tableRow i).mask = (tableRow i).value := by
  cases i with
  | lui | auipc => exact Laws.encU_opcode ..
  | jal => exact Laws.encJ_opcode ..
  | beq | bne | blt | bge | bltu | bgeu => exact Laws.encB_funct3 ..
  | sb | sh | sw => exact Laws.encS_funct3 ..
  | jalr | lb | lh | lw | lbu | lhu | addi | slti | sltiu | xori | ori | andi
  | csrrw | csrrs | csrrc | csrrwi | csrrsi | csrrci => exact Laws.encI_funct3 ..
  | slli => exact Laws.encR_funct3 ..
  | srli | srai | add | sub | sll | slt | sltu | xor | srl | sra | or | and
  | mul | mulh | mulhsu | mulhu | div | divu | rem | remu => exact Laws.encR_funct7 ..
  | fence | fenceI => exact Laws.encM_funct3 ..
  | ecall | ebreak | uret | sret | mret | wfi => rfl

/-- A field that the mask compares whole is the value's field. -/
theorem extractLsb'_of_and_eq {w m v : Word} {s l : Nat} (h : w &&& m = v)
    (hm : m.extractLsb' s l = BitVec.allOnes l) : w.extractLsb' s l = v.extractLsb' s l := by
  rw [← h, BitVec.extractLsb'_and, hm, BitVec.and_allOnes]

theorem opcode_of_and_eq {w m v : Word} (h : w &&& m = v) (hm : opcode m = BitVec.allOnes 7) : opcode w = opcode v :=
  extractLsb'_of_and_eq h hm

theorem funct3_of_and_eq {w m v : Word} (h : w &&& m = v) (hm : funct3 m = BitVec.allOnes 3) : funct3 w = funct3 v :=
  extractLsb'_of_and_eq h hm

theorem funct7_of_and_eq {w m v : Word} (h : w &&& m = v) (hm : funct7 m = BitVec.allOnes 7) : funct7 w = funct7 v :=
  extractLsb'_of_and_eq h hm

theorem exists_decodeWord_of_row {w : Word} {j : Instr} (h : w &&& (tableRow j).mask = (tableRow j).value) :
    ∃ i, decodeWord w = .ok i ∧ tableRow i = tableRow j := by
  cases j <;> simp only [tableRow] at h
  case lui | auipc | jal =>
    rw [decodeWord, opcode_of_and_eq h rfl]
    exact ⟨_, rfl, rfl⟩
  case jalr =>
    rw [decodeWord_of_jalr (opcode_of_and_eq h rfl), decodeJalr, funct3_of_and_eq h rfl]
    exact ⟨_, rfl, rfl⟩
  case beq | bne | blt | bge | bltu | bgeu =>
    rw [decodeWord_of_branch (opcode_of_and_eq h rfl), decodeBranch, funct3_of_and_eq h rfl]
    exact ⟨_, rfl, rfl⟩
  case lb | lh | lw | lbu | lhu =>
    rw [decodeWord_of_load (opcode_of_and_eq h rfl), decodeLoad, funct3_of_and_eq h rfl]
    exact ⟨_, rfl, rfl⟩
  case sb | sh | sw =>
    rw [decodeWord_of_store (opcode_of_and_eq h rfl), decodeStore, funct3_of_and_eq h rfl]
    exact ⟨_, rfl, rfl⟩
  case addi | slti | sltiu | xori | ori | andi | slli =>
    rw [decodeWord_of_opImm (opcode_of_and_eq h rfl), decodeOpImm, funct3_of_and_eq h rfl]
    exact ⟨_, rfl, rfl⟩
  case srli | srai =>
    rw [decodeWord_of_opImm (opcode_of_and_eq h rfl), decodeOpImm, funct3_of_and_eq h rfl, funct7_of_and_eq h rfl]
    exact ⟨_, rfl, rfl⟩
  case add | sub | sll | slt | sltu | xor | srl | sra | or | and
      | mul | mulh | mulhsu | mulhu | div | divu | rem | remu =>
    rw [decodeWord_of_op (opcode_of_and_eq h rfl), decodeOp, funct3_of_and_eq h rfl, funct7_of_and_eq h rfl]
    exact ⟨_, rfl, rfl⟩
  case fence | fenceI =>
    rw [decodeWord_of_miscMem (opcode_of_and_eq h rfl), decodeMiscMem, funct3_of_and_eq h rfl]
    exact ⟨_, rfl, rfl⟩
  case ecall | ebreak | uret | sret | mret | wfi =>
    -- every bit is compared
    obtain rfl := BitVec.and_allOnes.symm.trans h
    exact ⟨_, rfl, rfl⟩
  case csrrw | csrrs | csrrc | csrrwi | csrrsi | csrrci =>
    rw [decodeWord_of_system (opcode_of_and_eq h rfl), decodeSystem, funct3_of_and_eq h rfl]
    exact ⟨_, rfl, rfl⟩

/-- Settles O4: a word that decodes is the encoding of its instruction, and a word with a row's values meets
that row's keys; as a word decodes to one instruction, two rows that match it are that instruction's. -/
theorem opcodeTableRowsDecideTheInstruction : Obligations.OpcodeTableRowsDecideTheInstruction := by
  refine ⟨fun w i h => ?_, fun _ _ => exists_decodeWord_of_row, fun w i j hi hj => ?_⟩
  · obtain ⟨-, rfl, -⟩ := decodeWord_ok h
    exact encode_and_mask i
  · obtain ⟨i', hdi, hrowi⟩ := exists_decodeWord_of_row hi
    obtain ⟨j', hdj, hrowj⟩ := exists_decodeWord_of_row hj
    obtain rfl : i' = j' := Except.ok.inj (hdi.symm.trans hdj)
    exact hrowi.symm.trans hrowj

end Sys2Proof.Proofs
end

section
/-! Proofs about the field extractor: the fields and the immediates as arithmetic on the word (R301 to R313). -/

namespace Sys2Proof.Proofs
open Sys2Proof.Machine Sys2Proof.Extractor

/-! A field is a shift and a mask (R301). -/

theorem zext_extractLsb' (w : Word) (s l : Nat) :
    zext (w.extractLsb' s l) = (w >>> s) &&& BitVec.ofNat 32 (2 ^ l - 1) := by
  apply BitVec.eq_of_getLsbD_eq
  intro i hi
  simp only [zext, BitVec.getLsbD_setWidth, BitVec.getLsbD_extractLsb', BitVec.getLsbD_and, BitVec.getLsbD_ushiftRight,
    BitVec.getLsbD_ofNat, Nat.testBit_two_pow_sub_one, hi, decide_true, Bool.true_and, Bool.and_comm]

/-- Settles O6: each field is an extraction of the word's bits. -/
theorem fieldsAreShiftsAndMasks : Obligations.FieldsAreShiftsAndMasks := by
  intro w
  exact ⟨zext_extractLsb' w 0 7, zext_extractLsb' w 7 5, zext_extractLsb' w 12 3, zext_extractLsb' w 15 5,
    zext_extractLsb' w 20 5, zext_extractLsb' w 25 7, zext_extractLsb' w 20 12⟩

/-! Sign extension keeps the signed value, and fills the upper bits with the top bit (R308). -/

theorem signed_sext {n : Nat} (v : BitVec n) (hn : n ≤ 32) : signed (sext v) = v.toInt :=
  BitVec.toInt_signExtend_of_le hn

theorem sext_of_msb_false {n : Nat} {v : BitVec n} (h : v.msb = false) : sext v = zext v :=
  BitVec.signExtend_eq_setWidth_of_msb_false h

theorem sext_of_msb_true {n : Nat} {v : BitVec n} (h : v.msb = true) : sext v = zext v ||| BitVec.allOnes 32 <<< n := by
  apply BitVec.eq_of_getLsbD_eq
  intro i hi
  rw [sext, zext, BitVec.getLsbD_signExtend, BitVec.getLsbD_or, BitVec.getLsbD_setWidth, BitVec.getLsbD_shiftLeft,
    BitVec.getLsbD_allOnes, h]
  by_cases hin : i < n
  · simp [hi, hin]
  · have hv : v.getLsbD i = false := BitVec.getLsbD_of_ge v i (by omega)
    simp [hi, hin, hv]
    omega

/-! The top significant bit of the sign-extended immediates is the word's (R309). -/

section TopBits
variable (w : Word)

@[simp] theorem msb_append_of_ne_zero {v w : Nat} {x : BitVec v} {y : BitVec w} (h : v ≠ 0) :
    (no_index (x ++ y)).msb = x.msb := by
  rw [BitVec.msb_append, if_neg h]

@[simp] theorem msb_g31 : (g31 w).msb = w.getLsbD 31 := by
  simp [g31, BitVec.getMsbD_eq_getLsbD]

theorem msb_rawI : (rawI w).msb = w.getLsbD 31 := by simp [rawI]
theorem msb_rawS : (rawS w).msb = w.getLsbD 31 := by simp [rawS]
theorem msb_rawB : (rawB w).msb = w.getLsbD 31 := by simp [rawB]
theorem msb_rawJ : (rawJ w).msb = w.getLsbD 31 := by simp [rawJ]

end TopBits

/-- Settles O8: the top bit of each immediate is bit 31 of the word. -/
theorem signExtensionFollowsBitThirtyOne : Obligations.SignExtensionFollowsBitThirtyOne := by
  intro w
  refine ⟨fun h => ?_, fun h => ?_⟩
  · exact ⟨sext_of_msb_false ((msb_rawI w).trans h), sext_of_msb_false ((msb_rawS w).trans h),
      sext_of_msb_false ((msb_rawB w).trans h), sext_of_msb_false ((msb_rawJ w).trans h)⟩
  · exact ⟨sext_of_msb_true ((msb_rawI w).trans h), sext_of_msb_true ((msb_rawS w).trans h),
      sext_of_msb_true ((msb_rawB w).trans h), sext_of_msb_true ((msb_rawJ w).trans h)⟩

/-! The immediates as integers: their ranges, and the factor 2 of the offsets (R303 to R307). -/

/-- The range of a two's-complement integer, by its number of bits. -/
theorem signed_sext_range {n : Nat} (v : BitVec (n + 1)) (hn : n + 1 ≤ 32) :
    -2 ^ n ≤ signed (sext v) ∧ signed (sext v) ≤ 2 ^ n - 1 := by
  rw [signed_sext v hn]
  exact ⟨BitVec.le_toInt v, BitVec.toInt_le⟩

/-- An offset whose bit 0 is a zero is twice the integer its other bits make. -/
theorem signed_sext_append_zero {n : Nat} (v : BitVec (n + 1)) (hn : n + 2 ≤ 32) :
    -2 ^ (n + 1) ≤ signed (sext (v ++ 0#1)) ∧ signed (sext (v ++ 0#1)) ≤ 2 ^ (n + 1) - 2 ∧
    2 ∣ signed (sext (v ++ 0#1)) := by
  have hlo := BitVec.le_toInt v
  have hhi := BitVec.toInt_le (x := v)
  rw [signed_sext _ hn, BitVec.toInt_append_zero, pow_succ]
  simp only [Nat.add_sub_cancel] at hlo hhi
  omega

theorem signed_immB_range (w : Word) :
    -4096 ≤ signed (immB w) ∧ signed (immB w) ≤ 4094 ∧ 2 ∣ signed (immB w) :=
  signed_sext_append_zero (n := 11) (g31 w ++ g7 w ++ g30_25 w ++ g11_8 w) (by decide)

theorem signed_immJ_range (w : Word) :
    -1048576 ≤ signed (immJ w) ∧ signed (immJ w) ≤ 1048574 ∧ 2 ∣ signed (immJ w) :=
  signed_sext_append_zero (n := 19) (g31 w ++ g19_12 w ++ g20 w ++ g30_25 w ++ g24_21 w) (by decide)

theorem immU_eq_and (w : Word) : immU w = w &&& 0xFFFFF000 := by
  apply BitVec.eq_of_getLsbD_eq
  intro i hi
  simp only [immU, BitVec.getLsbD_append, BitVec.getLsbD_extractLsb', BitVec.getLsbD_and]
  interval_cases i <;> simp

/-- Settles O7: the groups of R302 join to the groups the rules name. -/
theorem immediatesAreTheScatteredBits : Obligations.ImmediatesAreTheScatteredBits := by
  intro w
  refine ⟨congrArg sext (rawI_eq_f12 w), congrArg sext (rawS_eq_funct7_rd w), rfl, immU_eq_and w,
    congrArg sext (rawJ_eq_append w), ?_, ?_, signed_immB_range w, signed_immJ_range w,
    msb_rawI w, msb_rawS w, msb_rawB w, msb_rawJ w⟩
  · exact signed_sext_range (n := 11) (rawI w) (by decide)
  · exact signed_sext_range (n := 11) (rawS w) (by decide)

/-- Settles O9: the offsets' ranges bound their magnitudes, and eight digits hold these. -/
theorem offsetsFitEightHexDigits : Obligations.OffsetsFitEightHexDigits := by
  intro w
  obtain ⟨hblo, hbhi, -⟩ := signed_immB_range w
  obtain ⟨hjlo, hjhi, -⟩ := signed_immJ_range w
  exact ⟨by omega, by omega, numeralValue_hex (by omega), numeralValue_hex (by omega)⟩

end Sys2Proof.Proofs
end

section
/-! Proofs about the output text: the mnemonic column, the operands' texts and what an instruction presents
(R340 to R350). -/

namespace Sys2Proof.Proofs
open Sys2Proof.Machine

/-! The mnemonic column (R340). -/

@[simp] theorem spaces_length (n : Nat) : (spaces n).length = n := by
  rw [← String.length_toList, spaces, String.toList_ofList, List.length_replicate]

theorem eq_blank_of_mem_spaces {n : Nat} {c : Char} (hc : c ∈ (spaces n).toList) : c = ' ' := by
  rw [spaces, String.toList_ofList] at hc
  exact List.eq_of_mem_replicate hc

/-- Joining from the right, as R13 has it, is appending one after another from the left. -/
theorem join_cons_eq_foldl (sep a : String) (l : List String) :
    join sep (a :: l) = l.foldl (fun acc x => acc ++ sep ++ x) a := by
  induction l generalizing a with
  | nil => rfl
  | cons b l ih =>
    rw [join, ih, List.foldl_cons]
    exact (List.foldl_hom (a ++ sep ++ ·) fun x y => by simp only [String.append_assoc]).symm

theorem render_of_operands (p : Params) (mn : String) (o : Operand) (os : List Operand) :
    render p mn (o :: os) = pad mn p.column ++ join ", " (optext p o :: os.map (optext p)) := rfl

theorem mnemonic_length_le (i : Instr) : (tableRow i).mnemonic.length ≤ 7 := by
  cases i <;> simp only [tableRow] <;> decide

/-- Settles O33: no mnemonic is longer than seven characters, so the padding is two blanks or more. -/
theorem mnemonicColumnIsNineWide : Obligations.MnemonicColumnIsNineWide := by
  intro p i hcol
  have hlen := mnemonic_length_le i
  refine ⟨hlen, render_no_operands p _, fun o os => ⟨spaces (9 - (tableRow i).mnemonic.length), ?_, ?_, ?_, ?_⟩⟩
  · rw [spaces_length]
    omega
  · exact fun _ => eq_blank_of_mem_spaces
  · rw [String.length_append, spaces_length]
    omega
  · rw [render_of_operands, hcol, pad, join_cons_eq_foldl]

/-! The texts of the operands. -/

theorem optext_pcRel (p : Params) (o : Int) :
    optext p (.pcRel o) = (if 0 ≤ o then ".+0x" else ".-0x") ++ hex o.natAbs 8 := by
  rcases lt_or_ge o 0 with ho | ho
  · have ho' : ¬ 0 ≤ o := by omega
    simp [optext, pcRelText, ho, ho']
  · simp [optext, pcRelText, Int.not_lt.mpr ho, ho]

/-- Settles O34: the sign is the offset's, and eight digits hold the magnitude. -/
theorem offsetTextHasItsSign : Obligations.OffsetTextHasItsSign := by
  intro p o ho
  exact ⟨⟨hexDigits 8 o.natAbs, optext_pcRel p o, hexDigits_length 8 _, numeralValue_hexDigits ho⟩, rfl⟩

/-- Settles O35: each kind by its own equation of `optext`, and the examples by running it. -/
theorem operandTextsOfTheOtherKinds : Obligations.OperandTextsOfTheOtherKinds := by
  intro p
  refine ⟨fun _ => rfl, fun _ => rfl, fun _ => rfl, fun i n => ?_, fun _ => rfl, fun _ => rfl, rfl, rfl, rfl⟩
  have hopen : "(x" = "(" ++ "x" := rfl
  simp only [optext, regText, hopen, String.append_assoc]

/-! What an instruction presents (R106). -/

/-- An instruction that takes its word with some mnemonic and operands presents the text these render to:
its word decodes to it, and the gate either holds the word or takes it with that text. -/
theorem presents_of_exec {i : Instr} {w : Word} {mn : String} {ops : List Operand} {txt : Params → String}
    (hwf : i.wellFormed = true) (henc : encode i = w) (hexec : ∀ s, exec i s = takeText (encode i) mn ops s)
    (htxt : ∀ p : Params, p.column = 9 → render p mn ops = txt p) : Presents i w txt := by
  subst henc
  refine ⟨decodeWord_encode hwf, fun s hcol => ⟨?_, fun hother => ?_⟩⟩
  · rintro ⟨r, hheld⟩
    rw [hexec, takeText, State.onNewWord_of_held hheld]
  · obtain ⟨cr, hheld, -⟩ | ⟨-, h⟩ := Cache.onNewWord_cases s.cache (encode i) (.text (render s.params mn ops))
    · exact absurd hheld (hother cr)
    · rw [hexec, takeText, State.onNewWord, h, htxt s.params hcol]
      rfl

/-- The text of a CSR instruction of the immediate form: the literal is the `rs1` field itself (R312). -/
theorem render_csrImm {p : Params} (hcol : p.column = 9) (mn : String) (rd : RegNum) (a : CsrAddr) (u : BitVec 5) :
    render p mn (opsCsrImm rd a u) =
      pad mn 9 ++ "x" ++ decNat rd.toNat ++ ", " ++ csrname p a ++ ", 0x" ++ hex u.toNat 8 := by
  have hu : (zext u).toNat = u.toNat := BitVec.toNat_setWidth_of_le (by decide)
  have hsep : ", 0x" = ", " ++ "0x" := rfl
  simp only [opsCsrImm, render_of_operands, hcol, List.map, join, optext, regText, hu, hsep, String.append_assoc]

theorem presentsCsrImm {mk : RegNum → CsrAddr → BitVec 5 → Instr} {f3 : BitVec 3} {mn : String}
    (hwf : ∀ rd a u, (mk rd a u).wellFormed = true)
    (henc : ∀ rd a u, encode (mk rd a u) = encI a u f3 rd 0b1110011)
    (hexec : ∀ rd a u s, exec (mk rd a u) s = takeText (encode (mk rd a u)) mn (opsCsrImm rd a u) s) :
    PresentsCsrImm mk f3 (pad mn 9) :=
  fun rd a u => presents_of_exec (hwf rd a u) (henc rd a u) (hexec rd a u) fun _ hcol => render_csrImm hcol mn rd a u

/-- Settles O50: the three share the layout and the text; the two fixed words are read with the default table. -/
theorem csrImmediatesPrintTheRs1Field : Obligations.CsrImmediatesPrintTheRs1Field := by
  refine ⟨?_, ?_, ?_, by decide, by decide⟩
  · exact presentsCsrImm (mn := "csrrwi") (fun _ _ _ => rfl) (fun _ _ _ => rfl) fun _ _ _ _ => rfl
  · exact presentsCsrImm (mn := "csrrsi") (fun _ _ _ => rfl) (fun _ _ _ => rfl) fun _ _ _ _ => rfl
  · exact presentsCsrImm (mn := "csrrci") (fun _ _ _ => rfl) (fun _ _ _ => rfl) fun _ _ _ _ => rfl

/-! Fixed words, read by running the decoder. -/

/-- Settles O1: the decoder is run on each word. -/
theorem decodesHandWrittenWords : Obligations.DecodesHandWrittenWords := by
  unfold Obligations.DecodesHandWrittenWords
  decide

/-- Settles O51: the reference `decode` is run on each word. -/
theorem pseudoInstructionsPrintAsBase : Obligations.PseudoInstructionsPrintAsBase := by
  unfold Obligations.PseudoInstructionsPrintAsBase
  decide

end Sys2Proof.Proofs
end

section
/-! Proofs about the upper immediates and the jumps: their layouts and texts (R400 to R404). -/

namespace Sys2Proof.Proofs
open Sys2Proof.Machine

/-! The layouts put together from an immediate's own parts (R302, R306, R307). -/

theorem encU_append_zero (hi : BitVec 20) (rd : RegNum) (op : BitVec 7) : encU (hi ++ 0#12) rd op = hi ++ rd ++ op := by
  rw [encU, BitVec.extractLsb'_append_eq_left]

theorem encJ_append (b20 b11 : BitVec 1) (mid : BitVec 8) (low : BitVec 10) (rd : RegNum) :
    encJ (b20 ++ mid ++ b11 ++ low ++ 0#1) rd = b20 ++ low ++ b11 ++ mid ++ rd ++ 0b1101111#7 := by
  simp [encJ]

/-! The texts in the 9-character column. -/

/-- The twelve low zeros of `imm_u` are a factor 4096 (R306). -/
theorem toNat_append_zero_12 (hi : BitVec 20) : (hi ++ 0#12).toNat = hi.toNat * 4096 := by
  rw [BitVec.toNat_append, BitVec.toNat_ofNat, Nat.zero_mod, Nat.or_zero, Nat.shiftLeft_eq]

/-- The two spellings of R344's text, by `o < 0` and by `0 ≤ o`, agree. -/
theorem pcRelText_eq_offsetText (o : Int) : pcRelText o = offsetText o := by
  have hsign : pcRelText o = (if 0 ≤ o then ".+0x" else ".-0x") ++ hex o.natAbs 8 := optext_pcRel defaultParams o
  rw [hsign, offsetText]
  split_ifs with ho
  · have hmag : o.natAbs = o.toNat := by omega
    rw [hmag]
  · have hmag : o.natAbs = (-o).toNat := by omega
    rw [hmag]

section Texts
variable {p : Params} (hcol : p.column = 9) (mn : String) (rd : RegNum)
include hcol

theorem render_upper (hi : BitVec 20) :
    render p mn (opsU rd (hi ++ 0#12)) = pad mn 9 ++ "x" ++ decNat rd.toNat ++ ", 0x" ++ hex (hi.toNat * 4096) 8 := by
  have hsep : ", 0x" = ", " ++ "0x" := rfl
  simp only [opsU, render_of_operands, hcol, List.map, join, optext, regText, toNat_append_zero_12, hsep,
    String.append_assoc]

theorem render_jump (imm : BitVec 21) :
    render p mn (opsJ rd imm) = pad mn 9 ++ "x" ++ decNat rd.toNat ++ ", " ++ offsetText imm.toInt := by
  simp only [opsJ, render_of_operands, hcol, List.map, join, optext, regText, pcRelText_eq_offsetText,
    signed_sext imm (by decide), String.append_assoc]

theorem render_load (rs1 : RegNum) (imm : BitVec 12) :
    render p mn (opsLoad rd rs1 imm) =
      pad mn 9 ++ "x" ++ decNat rd.toNat ++ ", " ++ dec imm.toInt ++ "(x" ++ decNat rs1.toNat ++ ")" := by
  have hopen : "(x" = "(" ++ "x" := rfl
  simp only [opsLoad, render_of_operands, hcol, List.map, join, optext, regText, signed_sext imm (by decide), hopen,
    String.append_assoc]

end Texts

/-! What an instruction of the U format, and one of the I format with an address, presents. -/

theorem presentsUpper {mk : RegNum → Word → Instr} {op : BitVec 7} {mn : String}
    (hwf : ∀ rd imm, (mk rd imm).wellFormed = immUOk imm)
    (henc : ∀ rd imm, encode (mk rd imm) = encU imm rd op)
    (hexec : ∀ rd imm s, exec (mk rd imm) s = takeText (encode (mk rd imm)) mn (opsU rd imm) s) :
    PresentsUpper mk op (pad mn 9) := by
  intro rd hi
  have hok : immUOk (hi ++ 0#12) = true := beq_iff_eq.mpr BitVec.extractLsb'_append_eq_right
  exact presents_of_exec ((hwf rd _).trans hok) ((henc rd _).trans (encU_append_zero hi rd op)) (hexec rd _)
    fun _ hcol => render_upper hcol mn rd hi

theorem presentsLoad {mk : RegNum → RegNum → BitVec 12 → Instr} {op : BitVec 7} {f3 : BitVec 3} {mn : String}
    (hwf : ∀ rd rs1 imm, (mk rd rs1 imm).wellFormed = true)
    (henc : ∀ rd rs1 imm, encode (mk rd rs1 imm) = encI imm rs1 f3 rd op)
    (hexec : ∀ rd rs1 imm s, exec (mk rd rs1 imm) s = takeText (encode (mk rd rs1 imm)) mn (opsLoad rd rs1 imm) s) :
    PresentsLoad mk op f3 (pad mn 9) :=
  fun rd rs1 imm => presents_of_exec (hwf rd rs1 imm) (henc rd rs1 imm) (hexec rd rs1 imm)
    fun _ hcol => render_load hcol mn rd rs1 imm

/-- Settles O37: the two share the layout and the text. -/
theorem upperImmediatesPresentTheirTexts : Obligations.UpperImmediatesPresentTheirTexts := by
  constructor
  · exact presentsUpper (mn := "lui") (fun _ _ => rfl) (fun _ _ => rfl) fun _ _ _ => rfl
  · exact presentsUpper (mn := "auipc") (fun _ _ => rfl) (fun _ _ => rfl) fun _ _ _ => rfl

/-- Settles O38: the layout scatters the offset's parts, and the text has the offset's sign. -/
theorem jumpPresentsItsOffset : Obligations.JumpPresentsItsOffset := by
  intro rd b20 b11 mid low
  have hok : immJOk (b20 ++ mid ++ b11 ++ low ++ 0#1) = true := beq_iff_eq.mpr BitVec.extractLsb'_append_eq_right
  exact presents_of_exec hok (encJ_append b20 b11 mid low rd) (fun _ => rfl)
    fun _ hcol => render_jump hcol "jal" rd _

/-- Settles O39: the layout and the text are a load's. -/
theorem indirectJumpPresentsItsText : Obligations.IndirectJumpPresentsItsText :=
  presentsLoad (mn := "jalr") (fun _ _ _ => rfl) (fun _ _ _ => rfl) fun _ _ _ _ => rfl

end Sys2Proof.Proofs
end

section
/-! Proofs about the branches: their layout and texts (R420 to R426). -/

namespace Sys2Proof.Proofs
open Sys2Proof.Machine

/-- The layout put together from an offset's own parts (R302, R305). -/
theorem encB_append (b12 b11 : BitVec 1) (mid : BitVec 6) (low : BitVec 4) (rs2 rs1 : RegNum) (f3 : BitVec 3) :
    encB (b12 ++ b11 ++ mid ++ low ++ 0#1) rs2 rs1 f3 =
      b12 ++ mid ++ rs2 ++ rs1 ++ f3 ++ low ++ b11 ++ 0b1100011#7 := by
  simp [encB]

theorem render_branch {p : Params} (hcol : p.column = 9) (mn : String) (rs1 rs2 : RegNum) (imm : BitVec 13) :
    render p mn (opsB rs1 rs2 imm) =
      pad mn 9 ++ "x" ++ decNat rs1.toNat ++ ", x" ++ decNat rs2.toNat ++ ", " ++ offsetText imm.toInt := by
  have hsep : ", x" = ", " ++ "x" := rfl
  simp only [opsB, render_of_operands, hcol, List.map, join, optext, regText, pcRelText_eq_offsetText,
    signed_sext imm (by decide), hsep, String.append_assoc]

/-- What a branch presents: an offset of parts with a zero below them is even, so the word keeps all of it. -/
theorem presentsBranch {mk : RegNum → RegNum → BitVec 13 → Instr} {f3 : BitVec 3} {mn : String}
    (hwf : ∀ rs1 rs2 imm, (mk rs1 rs2 imm).wellFormed = immBOk imm)
    (henc : ∀ rs1 rs2 imm, encode (mk rs1 rs2 imm) = encB imm rs2 rs1 f3)
    (hexec : ∀ rs1 rs2 imm s,
      exec (mk rs1 rs2 imm) s = takeText (encode (mk rs1 rs2 imm)) mn (opsB rs1 rs2 imm) s) :
    PresentsBranch mk f3 (pad mn 9) := by
  intro rs1 rs2 b12 b11 mid low
  have hok : immBOk (b12 ++ b11 ++ mid ++ low ++ 0#1) = true := beq_iff_eq.mpr BitVec.extractLsb'_append_eq_right
  exact presents_of_exec ((hwf rs1 rs2 _).trans hok) ((henc rs1 rs2 _).trans (encB_append b12 b11 mid low rs2 rs1 f3))
    (hexec rs1 rs2 _) fun _ hcol => render_branch hcol mn rs1 rs2 _

/-- Settles O40: the six share the layout and the text. -/
theorem branchesPresentTheirTexts : Obligations.BranchesPresentTheirTexts := by
  refine ⟨?_, ?_, ?_, ?_, ?_, ?_⟩
  · exact presentsBranch (mn := "beq") (fun _ _ _ => rfl) (fun _ _ _ => rfl) fun _ _ _ _ => rfl
  · exact presentsBranch (mn := "bne") (fun _ _ _ => rfl) (fun _ _ _ => rfl) fun _ _ _ _ => rfl
  · exact presentsBranch (mn := "blt") (fun _ _ _ => rfl) (fun _ _ _ => rfl) fun _ _ _ _ => rfl
  · exact presentsBranch (mn := "bge") (fun _ _ _ => rfl) (fun _ _ _ => rfl) fun _ _ _ _ => rfl
  · exact presentsBranch (mn := "bltu") (fun _ _ _ => rfl) (fun _ _ _ => rfl) fun _ _ _ _ => rfl
  · exact presentsBranch (mn := "bgeu") (fun _ _ _ => rfl) (fun _ _ _ => rfl) fun _ _ _ _ => rfl

end Sys2Proof.Proofs
end

section
/-! Proofs about the loads and the stores: their layouts and texts (R440 to R453). -/

namespace Sys2Proof.Proofs
open Sys2Proof.Machine

/-- Settles O41: the five share the layout and the text. -/
theorem loadsPresentTheirTexts : Obligations.LoadsPresentTheirTexts := by
  refine ⟨?_, ?_, ?_, ?_, ?_⟩
  · exact presentsLoad (mn := "lb") (fun _ _ _ => rfl) (fun _ _ _ => rfl) fun _ _ _ _ => rfl
  · exact presentsLoad (mn := "lh") (fun _ _ _ => rfl) (fun _ _ _ => rfl) fun _ _ _ _ => rfl
  · exact presentsLoad (mn := "lw") (fun _ _ _ => rfl) (fun _ _ _ => rfl) fun _ _ _ _ => rfl
  · exact presentsLoad (mn := "lbu") (fun _ _ _ => rfl) (fun _ _ _ => rfl) fun _ _ _ _ => rfl
  · exact presentsLoad (mn := "lhu") (fun _ _ _ => rfl) (fun _ _ _ => rfl) fun _ _ _ _ => rfl

/-- The layout put together from an immediate's own parts (R302, R304). -/
theorem encS_append (hi : BitVec 7) (lo : BitVec 5) (rs2 rs1 : RegNum) (f3 : BitVec 3) :
    encS (hi ++ lo) rs2 rs1 f3 = hi ++ rs2 ++ rs1 ++ f3 ++ lo ++ 0b0100011#7 := by
  rw [encS, BitVec.extractLsb'_append_eq_left, BitVec.extractLsb'_append_eq_right]

/-- A store's operands are a load's with `rs2` in the place of `rd`. -/
theorem opsS_eq_opsLoad (rs2 rs1 : RegNum) (imm : BitVec 12) : opsS rs2 rs1 imm = opsLoad rs2 rs1 imm := rfl

/-- What a store presents: the word keeps both parts of the immediate, and the text is a load's. -/
theorem presentsStore {mk : RegNum → RegNum → BitVec 12 → Instr} {f3 : BitVec 3} {mn : String}
    (hwf : ∀ rs2 rs1 imm, (mk rs2 rs1 imm).wellFormed = true)
    (henc : ∀ rs2 rs1 imm, encode (mk rs2 rs1 imm) = encS imm rs2 rs1 f3)
    (hexec : ∀ rs2 rs1 imm s,
      exec (mk rs2 rs1 imm) s = takeText (encode (mk rs2 rs1 imm)) mn (opsS rs2 rs1 imm) s) :
    PresentsStore mk f3 (pad mn 9) := by
  intro rs2 rs1 hi lo
  refine presents_of_exec (hwf rs2 rs1 _) ((henc rs2 rs1 _).trans (encS_append hi lo rs2 rs1 f3)) (hexec rs2 rs1 _)
    fun _ hcol => ?_
  rw [opsS_eq_opsLoad, render_load hcol]

/-- Settles O42: the three share the layout and the text. -/
theorem storesPresentTheirTexts : Obligations.StoresPresentTheirTexts := by
  refine ⟨?_, ?_, ?_⟩
  · exact presentsStore (mn := "sb") (fun _ _ _ => rfl) (fun _ _ _ => rfl) fun _ _ _ _ => rfl
  · exact presentsStore (mn := "sh") (fun _ _ _ => rfl) (fun _ _ _ => rfl) fun _ _ _ _ => rfl
  · exact presentsStore (mn := "sw") (fun _ _ _ => rfl) (fun _ _ _ => rfl) fun _ _ _ _ => rfl

end Sys2Proof.Proofs
end

section
/-! Proofs about the operations with an immediate: their layouts and texts (R460 to R469), and the source's own
vectors. -/

namespace Sys2Proof.Proofs
open Sys2Proof.Machine

/-! The texts in the 9-character column. -/

/-- The text of two registers and a third operand of any kind. -/
theorem render_reg_reg {p : Params} (hcol : p.column = 9) (mn : String) (r₁ r₂ : RegNum) (o : Operand) :
    render p mn [.reg r₁, .reg r₂, o] =
      pad mn 9 ++ "x" ++ decNat r₁.toNat ++ ", x" ++ decNat r₂.toNat ++ ", " ++ optext p o := by
  have hsep : ", x" = ", " ++ "x" := rfl
  simp only [render_of_operands, hcol, List.map, join, optext, regText, hsep, String.append_assoc]

/-- The immediate in signed decimal, whether the instruction compares signed or unsigned (R463). -/
theorem optext_imm_sext (p : Params) (imm : BitVec 12) : optext p (.imm (signed (sext imm))) = dec imm.toInt := by
  rw [optext, signed_sext imm (by decide)]

/-- A shift amount is unsigned, so it has no sign (R310). -/
theorem optext_imm_natCast (p : Params) (n : Nat) : optext p (.imm n) = decNat n :=
  dec_of_nonneg (Int.natCast_nonneg n)

/-! What an instruction of the I format with an immediate, and one with a shift amount, presents. -/

theorem presentsAlu {mk : RegNum → RegNum → BitVec 12 → Instr} {f3 : BitVec 3} {mn : String}
    (hwf : ∀ rd rs1 imm, (mk rd rs1 imm).wellFormed = true)
    (henc : ∀ rd rs1 imm, encode (mk rd rs1 imm) = encI imm rs1 f3 rd 0b0010011)
    (hexec : ∀ rd rs1 imm s, exec (mk rd rs1 imm) s = takeText (encode (mk rd rs1 imm)) mn (opsAlu rd rs1 imm) s) :
    PresentsAlu mk f3 (pad mn 9) := by
  intro rd rs1 imm
  refine presents_of_exec (hwf rd rs1 imm) (henc rd rs1 imm) (hexec rd rs1 imm) fun _ hcol => ?_
  rw [opsAlu, render_reg_reg hcol, optext_imm_sext]

theorem presentsShift {mk : RegNum → RegNum → BitVec 5 → Instr} {f7 : BitVec 7} {f3 : BitVec 3} {mn : String}
    (hwf : ∀ rd rs1 shamt, (mk rd rs1 shamt).wellFormed = true)
    (henc : ∀ rd rs1 shamt, encode (mk rd rs1 shamt) = encR f7 shamt rs1 f3 rd 0b0010011)
    (hexec : ∀ rd rs1 shamt s,
      exec (mk rd rs1 shamt) s = takeText (encode (mk rd rs1 shamt)) mn (opsShift rd rs1 shamt) s) :
    PresentsShift mk f7 f3 (pad mn 9) := by
  intro rd rs1 shamt
  refine presents_of_exec (hwf rd rs1 shamt) (henc rd rs1 shamt) (hexec rd rs1 shamt) fun _ hcol => ?_
  rw [opsShift, render_reg_reg hcol, optext_imm_natCast]

/-- Settles O43: the six share the layout and the text. -/
theorem immediateOperationsPresentTheirTexts : Obligations.ImmediateOperationsPresentTheirTexts := by
  refine ⟨?_, ?_, ?_, ?_, ?_, ?_⟩
  · exact presentsAlu (mn := "addi") (fun _ _ _ => rfl) (fun _ _ _ => rfl) fun _ _ _ _ => rfl
  · exact presentsAlu (mn := "slti") (fun _ _ _ => rfl) (fun _ _ _ => rfl) fun _ _ _ _ => rfl
  · exact presentsAlu (mn := "sltiu") (fun _ _ _ => rfl) (fun _ _ _ => rfl) fun _ _ _ _ => rfl
  · exact presentsAlu (mn := "xori") (fun _ _ _ => rfl) (fun _ _ _ => rfl) fun _ _ _ _ => rfl
  · exact presentsAlu (mn := "ori") (fun _ _ _ => rfl) (fun _ _ _ => rfl) fun _ _ _ _ => rfl
  · exact presentsAlu (mn := "andi") (fun _ _ _ => rfl) (fun _ _ _ => rfl) fun _ _ _ _ => rfl

/-- Settles O44: the three share the layout and the text; `slli` carries its uncompared `funct7`, the two right
shifts have fixed ones. -/
theorem shiftsPresentTheirTexts : Obligations.ShiftsPresentTheirTexts := by
  refine ⟨fun funct7 => ?_, ?_, ?_⟩
  · exact presentsShift (mn := "slli") (fun _ _ _ => rfl) (fun _ _ _ => rfl) fun _ _ _ _ => rfl
  · exact presentsShift (mn := "srli") (fun _ _ _ => rfl) (fun _ _ _ => rfl) fun _ _ _ _ => rfl
  · exact presentsShift (mn := "srai") (fun _ _ _ => rfl) (fun _ _ _ => rfl) fun _ _ _ _ => rfl

/-- Settles O36: `decode` and `csrname` are run on each vector. -/
theorem sourceVectorsHold : Obligations.SourceVectorsHold := by
  unfold Obligations.SourceVectorsHold
  decide

end Sys2Proof.Proofs
end

section
/-! Proofs about the operations on two registers, the multiplications and divisions among them: their layout and
texts (R480 to R498). -/

namespace Sys2Proof.Proofs
open Sys2Proof.Machine

/-- What an instruction of the R format presents: its third operand is a register too. -/
theorem presentsR {mk : RegNum → RegNum → RegNum → Instr} {f7 : BitVec 7} {f3 : BitVec 3} {mn : String}
    (hwf : ∀ rd rs1 rs2, (mk rd rs1 rs2).wellFormed = true)
    (henc : ∀ rd rs1 rs2, encode (mk rd rs1 rs2) = encR f7 rs2 rs1 f3 rd 0b0110011)
    (hexec : ∀ rd rs1 rs2 s, exec (mk rd rs1 rs2) s = takeText (encode (mk rd rs1 rs2)) mn (opsR rd rs1 rs2) s) :
    PresentsR mk f7 f3 (pad mn 9) := by
  intro rd rs1 rs2
  refine presents_of_exec (hwf rd rs1 rs2) (henc rd rs1 rs2) (hexec rd rs1 rs2) fun _ hcol => ?_
  have hsep : ", x" = ", " ++ "x" := rfl
  simp only [opsR, render_reg_reg hcol, optext, regText, hsep, String.append_assoc]

/-- Settles O45: the ten share the layout and the text. -/
theorem registerOperationsPresentTheirTexts : Obligations.RegisterOperationsPresentTheirTexts := by
  refine ⟨?_, ?_, ?_, ?_, ?_, ?_, ?_, ?_, ?_, ?_⟩
  · exact presentsR (mn := "add") (fun _ _ _ => rfl) (fun _ _ _ => rfl) fun _ _ _ _ => rfl
  · exact presentsR (mn := "sub") (fun _ _ _ => rfl) (fun _ _ _ => rfl) fun _ _ _ _ => rfl
  · exact presentsR (mn := "sll") (fun _ _ _ => rfl) (fun _ _ _ => rfl) fun _ _ _ _ => rfl
  · exact presentsR (mn := "slt") (fun _ _ _ => rfl) (fun _ _ _ => rfl) fun _ _ _ _ => rfl
  · exact presentsR (mn := "sltu") (fun _ _ _ => rfl) (fun _ _ _ => rfl) fun _ _ _ _ => rfl
  · exact presentsR (mn := "xor") (fun _ _ _ => rfl) (fun _ _ _ => rfl) fun _ _ _ _ => rfl
  · exact presentsR (mn := "srl") (fun _ _ _ => rfl) (fun _ _ _ => rfl) fun _ _ _ _ => rfl
  · exact presentsR (mn := "sra") (fun _ _ _ => rfl) (fun _ _ _ => rfl) fun _ _ _ _ => rfl
  · exact presentsR (mn := "or") (fun _ _ _ => rfl) (fun _ _ _ => rfl) fun _ _ _ _ => rfl
  · exact presentsR (mn := "and") (fun _ _ _ => rfl) (fun _ _ _ => rfl) fun _ _ _ _ => rfl

/-- Settles O46: the eight share the layout and the text, a divisor `x0` being one of the registers. -/
theorem multiplyDividePresentTheirTexts : Obligations.MultiplyDividePresentTheirTexts := by
  refine ⟨?_, ?_, ?_, ?_, ?_, ?_, ?_, ?_⟩
  · exact presentsR (mn := "mul") (fun _ _ _ => rfl) (fun _ _ _ => rfl) fun _ _ _ _ => rfl
  · exact presentsR (mn := "mulh") (fun _ _ _ => rfl) (fun _ _ _ => rfl) fun _ _ _ _ => rfl
  · exact presentsR (mn := "mulhsu") (fun _ _ _ => rfl) (fun _ _ _ => rfl) fun _ _ _ _ => rfl
  · exact presentsR (mn := "mulhu") (fun _ _ _ => rfl) (fun _ _ _ => rfl) fun _ _ _ _ => rfl
  · exact presentsR (mn := "div") (fun _ _ _ => rfl) (fun _ _ _ => rfl) fun _ _ _ _ => rfl
  · exact presentsR (mn := "divu") (fun _ _ _ => rfl) (fun _ _ _ => rfl) fun _ _ _ _ => rfl
  · exact presentsR (mn := "rem") (fun _ _ _ => rfl) (fun _ _ _ => rfl) fun _ _ _ _ => rfl
  · exact presentsR (mn := "remu") (fun _ _ _ => rfl) (fun _ _ _ => rfl) fun _ _ _ _ => rfl

end Sys2Proof.Proofs
end

section
/-! Proofs about the instructions printed without operands: the fences (R510 to R512). -/

namespace Sys2Proof.Proofs
open Sys2Proof.Machine

/-- What an instruction without printed operands presents: its text is the mnemonic, with no padding (R340). -/
theorem presents_mnemonic {i : Instr} {w : Word} {mn : String} (hwf : i.wellFormed = true) (henc : encode i = w)
    (hexec : ∀ s, exec i s = takeText (encode i) mn [] s) : Presents i w fun _ => mn :=
  presents_of_exec hwf henc hexec fun p _ => render_no_operands p mn

/-- Settles O47: the layout keeps the uncompared bits in the word, and the text has no operand to show them. -/
theorem fencesPresentBareMnemonics : Obligations.FencesPresentBareMnemonics := by
  refine ⟨fun _ _ => ?_, fun _ _ => ?_⟩
  · exact presents_mnemonic (mn := "fence") rfl rfl fun _ => rfl
  · exact presents_mnemonic (mn := "fence.i") rfl rfl fun _ => rfl

end Sys2Proof.Proofs
end

section
/-! Proofs about the SYSTEM instructions (R520 to R536): the privileged ones' single words and bare names, and the
CSR instructions of the register form. -/

namespace Sys2Proof.Proofs
open Sys2Proof.Machine

/-- A word that decodes to `i` is `i`'s own, so an instruction with no operands has no other (R302). -/
theorem eq_encode_of_decodeWord {w : Word} {i : Instr} (h : decodeWord w = .ok i) : w = encode i := by
  obtain ⟨-, henc, -⟩ := decodeWord_ok h
  exact henc.symm

/-- Settles O48: each has no operands, so its word is the only one that decodes to it and its text is the mnemonic. -/
theorem privilegedInstructionsPresentTheirNames : Obligations.PrivilegedInstructionsPresentTheirNames := by
  refine ⟨?_, ?_, ?_, ?_, ?_, ?_, fun _ => ⟨eq_encode_of_decodeWord, eq_encode_of_decodeWord, eq_encode_of_decodeWord,
    eq_encode_of_decodeWord, eq_encode_of_decodeWord, eq_encode_of_decodeWord⟩⟩
  · exact presents_mnemonic (mn := "ecall") rfl rfl fun _ => rfl
  · exact presents_mnemonic (mn := "ebreak") rfl rfl fun _ => rfl
  · exact presents_mnemonic (mn := "uret") rfl rfl fun _ => rfl
  · exact presents_mnemonic (mn := "sret") rfl rfl fun _ => rfl
  · exact presents_mnemonic (mn := "mret") rfl rfl fun _ => rfl
  · exact presents_mnemonic (mn := "wfi") rfl rfl fun _ => rfl

/-- The text of a CSR instruction of the register form (R530). -/
theorem render_csr {p : Params} (hcol : p.column = 9) (mn : String) (rd : RegNum) (a : CsrAddr) (rs1 : RegNum) :
    render p mn (opsCsr rd a rs1) =
      pad mn 9 ++ "x" ++ decNat rd.toNat ++ ", " ++ csrname p a ++ ", x" ++ decNat rs1.toNat := by
  have hsep : ", x" = ", " ++ "x" := rfl
  simp only [opsCsr, render_of_operands, hcol, List.map, join, optext, regText, hsep, String.append_assoc]

theorem presentsCsr {mk : RegNum → CsrAddr → RegNum → Instr} {f3 : BitVec 3} {mn : String}
    (hwf : ∀ rd a rs1, (mk rd a rs1).wellFormed = true)
    (henc : ∀ rd a rs1, encode (mk rd a rs1) = encI a rs1 f3 rd 0b1110011)
    (hexec : ∀ rd a rs1 s, exec (mk rd a rs1) s = takeText (encode (mk rd a rs1)) mn (opsCsr rd a rs1) s) :
    PresentsCsr mk f3 (pad mn 9) :=
  fun rd a rs1 => presents_of_exec (hwf rd a rs1) (henc rd a rs1) (hexec rd a rs1)
    fun _ hcol => render_csr hcol mn rd a rs1

/-- Settles O49: the three share the layout and the text; the two fixed words are read with the default table, which
lists neither address. -/
theorem csrInstructionsPresentTheirTexts : Obligations.CsrInstructionsPresentTheirTexts := by
  refine ⟨?_, ?_, ?_, by decide, by decide⟩
  · exact presentsCsr (mn := "csrrw") (fun _ _ _ => rfl) (fun _ _ _ => rfl) fun _ _ _ _ => rfl
  · exact presentsCsr (mn := "csrrs") (fun _ _ _ => rfl) (fun _ _ _ => rfl) fun _ _ _ _ => rfl
  · exact presentsCsr (mn := "csrrc") (fun _ _ _ => rfl) (fun _ _ _ => rfl) fun _ _ _ _ => rfl

end Sys2Proof.Proofs
end

section
/-! Proofs about a run of events (R705), the state after reset (R700 to R702) and the frame of an instruction
(R605, R606). -/

namespace Sys2Proof.Proofs
open Sys2Proof.Machine

/-! The gate when it does not hold the word. -/

theorem State.onNewWord_of_other {s : State} {w : Word} (h : ∀ cr, s.cache ≠ .held w cr) (r : DecodeResult) :
    s.onNewWord w r = s.withCache (.held w r) := by
  obtain ⟨cr, hheld, -⟩ | ⟨-, hgate⟩ := Cache.onNewWord_cases s.cache w r
  · exact absurd hheld (h cr)
  · rw [State.onNewWord, hgate]

/-! Runs. -/

theorem run_succ_of_step {M : Host.Core} {s t : M.State} (h : M.step s = .next t) (k : Nat) :
    M.run (k + 1) s = M.run k t := by
  simp [Host.Core.run, h]

/-- From a sound state the step takes the oldest event and leaves its word with `decode` of it (R107). -/
theorem step_of_event_of_Inv {s : State} {w : Word} {rest : List Word} (hs : s.Inv) (he : s.events = w :: rest) :
    step s = .next { cache := .held w (decode s.params w), events := rest, params := s.params } := by
  rw [step_of_event he, State.onNewWord, State.withEvents_cache, Cache.onNewWord_of_sound hs]
  rfl

/-- Settles O18, by induction on the words before the last: each step leaves a state with the invariant again,
from which the last step takes `w`. -/
theorem runPresentsTheLastWord : Obligations.RunPresentsTheLastWord := by
  intro s ws w hs he
  induction ws generalizing s with
  | nil => exact run_succ_of_step (M := core) (step_of_event_of_Inv hs he) 0
  | cons v ws ih =>
    have hstep := step_of_event_of_Inv hs he
    exact (run_succ_of_step (M := core) hstep _).trans (ih _ (Inv_of_step hs hstep) rfl)

/-! The state after reset. -/

/-- Settles O21: the reset state has the invariant, so its first event leaves `decode` of its word; the word 0 has
no listed opcode. -/
theorem firstEventAlwaysDecodes : Obligations.FirstEventAlwaysDecodes := by
  intro w rest
  have hzero : decode State.reset.params 0 = .noMatch 0 := decode_of_decodeWord_error (r := .opcode) rfl _
  have hfirst (v : Word) : step { State.reset with events := v :: rest } =
      .next { State.reset with cache := .held v (decode State.reset.params v), events := rest } :=
    step_of_event_of_Inv trivial rfl
  exact ⟨hfirst w, hzero ▸ hfirst 0⟩

/-- Settles O22: the values `State.reset` and `registersReset` are defined with; the sentinel is another
constructor than a result. -/
theorem resetValuesAreTheSpecs : Obligations.ResetValuesAreTheSpecs :=
  ⟨State.reset_cache, rfl, rfl, rfl, nofun, rfl, Registers.port_of_invalid rfl, rfl⟩

/-! The frame of an instruction. -/

/-- Settles O24: each instruction is the event of its own word with one text, and the gate keeps an entry for the
word or takes that text. -/
theorem everyInstructionChangesOnlyTheCache : Obligations.EveryInstructionChangesOnlyTheCache := by
  intro i
  obtain ⟨mn, ops, hexec⟩ := exec_text_uniform i
  refine ⟨fun p => render p mn ops, fun s => ⟨_, hexec s, rfl, rfl, ?_, fun hother => ?_⟩⟩
  · rintro ⟨cr, hheld⟩
    rw [State.onNewWord_of_held hheld]
  · rw [State.onNewWord_of_other hother, State.withCache_cache]

end Sys2Proof.Proofs
end

section
/-! Proofs about the words that are no instruction (R330, R331, R601): each family's unlisted keys, what the block
answers (R600), and that every word gets exactly one result (R602). -/

namespace Sys2Proof.Proofs
open Sys2Proof.Machine Sys2Proof.Extractor

/-! The decoder has no case for the word. -/

/-- The reading of a word names a level that has no case for it. -/
def Rejects (x : Except Reject Instr) : Prop := ∃ r, x = .error r

@[simp] theorem rejects_error (r : Reject) : Rejects (.error r) := ⟨r, rfl⟩

@[simp] theorem not_rejects_ok (i : Instr) : ¬ Rejects (.ok i) := nofun

@[simp] theorem rejects_ite {c : Prop} [Decidable c] {x y : Except Reject Instr} :
    Rejects (if c then x else y) ↔ (c ∧ Rejects x) ∨ (¬ c ∧ Rejects y) := by
  by_cases h : c <;> simp [h]

/-! The keys each family does not list (R331). -/

theorem rejects_decodeJalr (w : Word) : Rejects (decodeJalr w) ↔ (funct3 w).toNat ≠ 0 := by
  simp [decodeJalr, ← BitVec.toNat_inj]

theorem rejects_decodeBranch (w : Word) : Rejects (decodeBranch w) ↔ (funct3 w).toNat ∈ [2, 3] := by
  simp [decodeBranch, ← BitVec.toNat_inj]
  omega

theorem rejects_decodeLoad (w : Word) : Rejects (decodeLoad w) ↔ (funct3 w).toNat ∈ [3, 6, 7] := by
  simp [decodeLoad, ← BitVec.toNat_inj]
  omega

theorem rejects_decodeStore (w : Word) : Rejects (decodeStore w) ↔ (funct3 w).toNat ∈ [3, 4, 5, 6, 7] := by
  simp [decodeStore, ← BitVec.toNat_inj]
  omega

theorem rejects_decodeOpImm (w : Word) :
    Rejects (decodeOpImm w) ↔ (funct3 w).toNat = 5 ∧ (funct7 w).toNat ∉ [0, 0x20] := by
  simp [decodeOpImm, ← BitVec.toNat_inj]
  omega

theorem rejects_decodeOp (w : Word) : Rejects (decodeOp w) ↔
    (funct7 w).toNat ∉ [0, 1, 0x20] ∨ ((funct7 w).toNat = 0x20 ∧ (funct3 w).toNat ∉ [0, 5]) := by
  simp [decodeOp, ← BitVec.toNat_inj]
  omega

theorem rejects_decodeMiscMem (w : Word) : Rejects (decodeMiscMem w) ↔ (funct3 w).toNat ∉ [0, 1] := by
  simp [decodeMiscMem, ← BitVec.toNat_inj]

theorem rejects_decodeSystem (w : Word) : Rejects (decodeSystem w) ↔
    (funct3 w).toNat = 4 ∨ ((funct3 w).toNat = 0 ∧ ((rd w).toNat ≠ 0 ∨ (rs1 w).toNat ≠ 0 ∨
      (f12 w).toNat ∉ [0x000, 0x001, 0x002, 0x102, 0x302, 0x105])) := by
  simp [decodeSystem, ← BitVec.toNat_inj]
  omega

/-- The words the decoder rejects, by the values of their fields: the opcode chooses the family. -/
theorem rejects_decodeWord (w : Word) : Rejects (decodeWord w) ↔
    noMatchKeys (opcode w).toNat (rd w).toNat (funct3 w).toNat (rs1 w).toNat (funct7 w).toNat (f12 w).toNat := by
  by_cases hlui : opcode w = 0b0110111
  · simp [decodeWord, noMatchKeys, hlui]
  by_cases hauipc : opcode w = 0b0010111
  · simp [decodeWord, noMatchKeys, hauipc]
  by_cases hjal : opcode w = 0b1101111
  · simp [decodeWord, noMatchKeys, hjal]
  by_cases hjalr : opcode w = 0b1100111
  · rw [decodeWord_of_jalr hjalr, rejects_decodeJalr, hjalr]
    simp [noMatchKeys]
  by_cases hbranch : opcode w = 0b1100011
  · rw [decodeWord_of_branch hbranch, rejects_decodeBranch, hbranch]
    simp [noMatchKeys]
  by_cases hload : opcode w = 0b0000011
  · rw [decodeWord_of_load hload, rejects_decodeLoad, hload]
    simp [noMatchKeys]
  by_cases hstore : opcode w = 0b0100011
  · rw [decodeWord_of_store hstore, rejects_decodeStore, hstore]
    simp [noMatchKeys]
  by_cases hopImm : opcode w = 0b0010011
  · rw [decodeWord_of_opImm hopImm, rejects_decodeOpImm, hopImm]
    simp [noMatchKeys]
  by_cases hop : opcode w = 0b0110011
  · rw [decodeWord_of_op hop, rejects_decodeOp, hop]
    simp [noMatchKeys]
  by_cases hmiscMem : opcode w = 0b0001111
  · rw [decodeWord_of_miscMem hmiscMem, rejects_decodeMiscMem, hmiscMem]
    simp [noMatchKeys]
  by_cases hsystem : opcode w = 0b1110011
  · rw [decodeWord_of_system hsystem, rejects_decodeSystem, hsystem]
    simp [noMatchKeys]
  -- every other opcode has no family (R330)
  refine iff_of_true ⟨.opcode, ?_⟩ (.inl ?_)
  · simp only [decodeWord, if_false, *]
  · simp_all [← BitVec.toNat_inj]

theorem toNat_extractLsb'_word (w : Word) (s l : Nat) : (w.extractLsb' s l).toNat = w.toNat / 2 ^ s % 2 ^ l := by
  rw [BitVec.extractLsb'_toNat, Nat.shiftRight_eq_div_pow]

theorem toNat_extractLsb'_word_top (w : Word) (s l : Nat) (h : s + l = 32) :
    (w.extractLsb' s l).toNat = w.toNat / 2 ^ s := by
  rw [toNat_extractLsb'_word, Nat.mod_eq_of_lt]
  rw [Nat.div_lt_iff_lt_mul (by positivity), ← pow_add, add_comm, h]
  exact w.isLt

/-- The fields are R601's arithmetic on the word's value. -/
theorem rejects_decodeWord_iff_noMatchWord (w : Word) : Rejects (decodeWord w) ↔ noMatchWord w := by
  rw [rejects_decodeWord, opcode, rd, funct3, rs1, funct7, f12, toNat_extractLsb'_word_top w 25 7 rfl,
    toNat_extractLsb'_word_top w 20 12 rfl]
  simp only [toNat_extractLsb'_word, pow_zero, Nat.div_one]
  rfl

/-! What `decode` gives. -/

theorem Agree.text_of_ok {w : Word} {i : Instr} {t : Params → DecodeResult} (h : Agree w (.ok i) t) (p : Params) :
    ∃ s, t p = .text s := by
  cases h with
  | text => exact ⟨_, rfl⟩

theorem decode_of_decodeWord_ok {w : Word} {i : Instr} (h : decodeWord w = .ok i) (p : Params) :
    ∃ s, decode p w = .text s :=
  (h ▸ decodeWord_agrees_with_decode w).text_of_ok p

theorem decode_of_noMatchWord {w : Word} (h : noMatchWord w) (p : Params) : decode p w = .noMatch w := by
  obtain ⟨r, hr⟩ := (rejects_decodeWord_iff_noMatchWord w).mpr h
  exact decode_of_decodeWord_error hr p

theorem exists_decodeWord_of_not_noMatchWord {w : Word} (h : ¬ noMatchWord w) : ∃ i, decodeWord w = .ok i := by
  cases hd : decodeWord w with
  | ok i => exact ⟨i, rfl⟩
  | error r => exact absurd ((rejects_decodeWord_iff_noMatchWord w).mp ⟨r, hd⟩) h

/-- Settles O5: the decoder rejects the words of R330 and R331, and `decode` agrees with the decoder. -/
theorem unlistedKeysGiveNoMatch : Obligations.UnlistedKeysGiveNoMatch := by
  intro p w
  refine ⟨fun h => ⟨decode_of_noMatchWord h p, (rejects_decodeWord_iff_noMatchWord w).mpr h⟩, fun h => ?_⟩
  obtain ⟨i, hi⟩ := exists_decodeWord_of_not_noMatchWord h
  exact ⟨decode_of_decodeWord_ok hi p, i, hi⟩

/-! What every event, word and address gets (R602). -/

/-- With an event or without, the step answers a next state. -/
theorem step_total (s : State) : ∃ t, step s = .next t := by
  cases he : s.events with
  | nil => exact ⟨s, step_of_no_event he⟩
  | cons w rest => exact ⟨_, step_of_event he⟩

theorem csrname_cases (p : Params) (a : CsrAddr) : (∃ s, csrNames p a = some s ∧ csrname p a = s) ∨
    (csrNames p a = none ∧ csrname p a = "$0x" ++ hex a.toNat 3) := by
  cases h : csrNames p a with
  | none => exact .inr ⟨rfl, csrname_of_none h⟩
  | some s => exact .inl ⟨s, rfl, csrname_of_some h⟩

/-- Settles O17: a word decodes or is rejected, an address is listed or not, and after an event the cache holds
a result. -/
theorem everyWordGetsExactlyOneResult : Obligations.EveryWordGetsExactlyOneResult := by
  refine ⟨fun p w => ?_, csrname_cases, fun s w rest he => ?_, step_total⟩
  · cases hd : decodeWord w with
    | ok i =>
      obtain ⟨s, hs⟩ := decode_of_decodeWord_ok hd p
      exact .inl (by simp [hs])
    | error r => exact .inr (by simp [decode_of_decodeWord_error hd])
  · obtain ⟨r, hr⟩ := Cache.onNewWord_holds s.cache w (decode s.params w)
    exact ⟨_, r, step_of_event he, congrArg Cache.port hr⟩

/-- Settles O25: the event is the gate's step with `NoMatch(w)`, in both its arms. -/
theorem unrecognisedWordIsHeldAsNoMatch : Obligations.UnrecognisedWordIsHeldAsNoMatch := by
  intro s w rest he hw
  rw [step_of_event he, decode_of_noMatchWord hw]
  constructor
  · rintro ⟨r, hheld⟩
    rw [State.onNewWord_of_held (s := s.withEvents rest) hheld]
    rfl
  · intro hother
    rw [State.onNewWord_of_other (s := s.withEvents rest) hother]
    rfl

end Sys2Proof.Proofs
end

section
/-! Proofs about several instances in one host (R608). -/

namespace Sys2Proof.Proofs
open Sys2Proof.Machine

theorem sharesTable_set {p : Params} {insts : Instances} {t : State} (h : sharesTable p insts) (ht : t.params = p)
    (k : Nat) : sharesTable p (insts.set k t) := by
  intro s hs
  obtain hs | rfl := List.mem_or_eq_of_mem_set hs
  · exact h s hs
  · exact ht

theorem params_of_sharesTable {p : Params} {insts : Instances} {k : Nat} {s : State} (h : sharesTable p insts)
    (hk : insts[k]? = some s) : s.params = p :=
  h s (List.mem_of_getElem? hk)

theorem stepInstance_of_none {insts : Instances} {k : Nat} (hk : insts[k]? = none) :
    stepInstance insts k = .next insts := by
  simp [stepInstance, hk]

theorem stepInstance_of_some {insts : Instances} {k : Nat} {s t : State} (hk : insts[k]? = some s)
    (h : step s = .next t) : stepInstance insts k = .next (insts.set k t) := by
  simp [stepInstance, hk, h]

/-- Presenting a word to an instance replaces that instance. -/
theorem presentTo_of_some {insts : Instances} {k : Nat} {s : State} (hk : insts[k]? = some s) (w : Word) :
    presentTo insts k w = insts.set k (s.present w) := by
  rw [presentTo, List.modify_eq_set_getElem?, hk]
  rfl

theorem presentTo_of_none {insts : Instances} {k : Nat} (hk : insts[k]? = none) (w : Word) :
    presentTo insts k w = insts := by
  simp [presentTo, List.modify_eq_self (List.getElem?_eq_none_iff.mp hk)]

theorem instancesReset_share_the_table_and_are_idle (p : Params) (n : Nat) : sharesTable p (instancesReset p n) ∧
    (instancesReset p n).length = n ∧ ∀ s ∈ instancesReset p n, s.cache = .idle := by
  refine ⟨fun s hs => ?_, List.length_replicate, fun s hs => ?_⟩ <;> rw [List.eq_of_mem_replicate hs]

/-- Settles O26: an event and a step of instance `k` write that instance only, and a step leaves its parameters. -/
theorem instancesDoNotCommunicate : Obligations.InstancesDoNotCommunicate := by
  refine ⟨instancesReset_share_the_table_and_are_idle, fun p insts k w hshare => ?_⟩
  cases hk : insts[k]? with
  | none =>
    rw [presentTo_of_none hk, stepInstance_of_none hk]
    exact ⟨⟨hshare, rfl, fun _ _ => rfl⟩, insts, rfl, hshare, rfl, fun _ _ => rfl, nofun⟩
  | some s =>
    obtain ⟨hlt, -⟩ := List.getElem?_eq_some_iff.mp hk
    obtain ⟨t, ht⟩ := step_total s
    have hs : s.params = p := params_of_sharesTable hshare hk
    rw [presentTo_of_some hk, stepInstance_of_some hk ht]
    refine ⟨⟨sharesTable_set hshare ((State.present_params s w).trans hs) k, List.length_set,
      fun j hj => List.getElem?_set_ne hj.symm⟩,
      _, rfl, sharesTable_set hshare ((step_params ht).trans hs) k, List.length_set,
      fun j hj => List.getElem?_set_ne hj.symm, ?_⟩
    intro s' t' hs' ht'
    obtain rfl := Option.some.inj hs'
    obtain rfl := Host.Outcome.next.inj (ht.symm.trans ht')
    exact List.getElem?_set_self hlt

end Sys2Proof.Proofs
end
